-- ==== Sys2Proof/Word.lean ====
section
/-! DEFINITION. The two widths of the hardware (00_scope.md R5, R6). -/

namespace Sys2Proof

/-- An 8-bit value: a register, a memory byte, an immediate, a port number. -/
abbrev Byte := BitVec 8

/-- A 16-bit value: SP, PC, a register pair, an address. Its arithmetic is modulo 65,536. -/
abbrev Word := BitVec 16

end Sys2Proof
end

