-- ==== Sys2Proof/Config.lean ====
section
/-! DEFINITION. The named parameters of the hardware (00_scope.md R5). -/

namespace Sys2Proof

/-- The parameter `AUX_CARRY_MODE` (40_alu_and_addressing.md R124): whether the arithmetic
instructions leave the auxiliary carry alone or compute it. Fixed for a run. -/
inductive AuxCarryMode where
  | preserve
  | intel
  deriving DecidableEq, Repr

/-- The host's parameter `END_OF_RUN` (70_reset_and_hazards.md R353). It is no part of a step. -/
inductive EndOfRun where
  | steps (n : Nat)
  | atHalt
  | never
  deriving DecidableEq, Repr

/-- The parameter `InputDraw` (00_scope.md R5, 45_stack_io_control.md R287): the byte the
environment supplies to the IN instruction that makes draw number `draw`, from port `port`. It has
no body, so a claim about it holds for every sequence of input bytes. -/
opaque Config.inputDraw (draw : Nat) (port : Byte) : Byte

end Sys2Proof
end

