-- ==== Sys2Proof/Machine/State.lean ====
section
/-! DEFINITION. The CPU State (10_state.md R20), the two ways a step can stop, and reset. -/

namespace Sys2Proof.Machine

/-- The five condition flags, five independent bits (10_state.md R29). -/
structure Flags where
  z  : Bool   -- Zero
  s  : Bool   -- Sign
  p  : Bool   -- Parity: true when the number of 1 bits is even
  cy : Bool   -- Carry
  ac : Bool   -- Auxiliary-Carry
  deriving DecidableEq, Repr

/-- What a step hands to the host (00_scope.md R13, 60_exceptions.md R328). -/
inductive Event where
  | out (port value : Byte)   -- OUT
  | input (port : Byte)       -- IN
  | halt                      -- HLT
  deriving DecidableEq, Repr

/-- The CPU State of R20, and three fields of the model's own: the parameter AUX_CARRY_MODE, the
events emitted so far and the number of input bytes drawn so far. -/
structure State where
  a : Byte
  b : Byte
  c : Byte
  d : Byte
  e : Byte
  h : Byte
  l : Byte
  sp : Word
  pc : Word
  flags : Flags
  inte : Bool
  mem : List Host.Cell          -- addresses rising, no byte 0x00 listed; an unlisted byte is 0x00
  auxCarryMode : AuxCarryMode   -- the parameter, fixed for a run
  events : List Event           -- oldest first
  draws : Nat                   -- how many IN steps have run
  deriving DecidableEq, Repr

/-- The machine's faults. -/
inductive Fault where
  /-- UnimplementedOpcode (60_exceptions.md R310, R312): raised by `step` when the decoder finds no
  instruction in the bytes at PC. The decoder is total (R311), so no step raises it. Safe: the
  machine stops with its state unchanged (R313). -/
  | unimplementedOpcode (pc : Word) (opcode : Byte)
  deriving DecidableEq, Repr

/-- The machine's refusals. -/
inductive Refusal where
  /-- The arm of `exec` for an instruction that has no meaning yet. Safe: the run stops. No arm of
  this model raises it. -/
  | notModelled (mnemonic : String)
  deriving DecidableEq, Repr

/-- What running an instruction answers. -/
abbrev Result := Host.Outcome State Fault Refusal

/-- The CPU State at creation: every field zero (10_state.md R40, 70_reset_and_hazards.md R341),
every byte of memory 0x00 (R343), AUX_CARRY_MODE at the spec's default (R124). -/
def State.reset : State where
  a := 0x00
  b := 0x00
  c := 0x00
  d := 0x00
  e := 0x00
  h := 0x00
  l := 0x00
  sp := 0x0000
  pc := 0x0000
  flags := { z := false, s := false, p := false, cy := false, ac := false }
  inte := false
  mem := []
  auxCarryMode := .preserve
  events := []
  draws := 0

end Sys2Proof.Machine
end

