-- ==== Sys2Proof/Syntax.lean ====
section
/-! DEFINITION. The instruction set: one constructor of `Instr` for each of the 256 rows of
spec/opcode_table.json (30_encoding.md R91 to R95), and the operand fields of R85 to R88. -/

namespace Sys2Proof

/-- The seven 8-bit general registers (10_state.md R21). -/
inductive Reg where
  | a | b | c | d | e | h | l
  deriving DecidableEq, Repr

/-- The 3-bit operand selector (R85), in its order 0 to 7; `m` is the byte of memory at HL. -/
inductive Sel where
  | b | c | d | e | h | l | m | a
  deriving DecidableEq, Repr

/-- The 2-bit pair field of LXI, INX, DCX and DAD (R86), in its order 0 to 3. -/
inductive Pair where
  | bc | de | hl | sp
  deriving DecidableEq, Repr

/-- The 2-bit pair field of PUSH and POP (R87), in its order 0 to 3. -/
inductive StackPair where
  | bc | de | hl | psw
  deriving DecidableEq, Repr

/-- The 3-bit condition field (R88), in its order 0 to 7. -/
inductive Cond where
  | nz | z | nc | c | po | pe | p | m
  deriving DecidableEq, Repr

/-- The instructions: the 30 of three bytes, then the 18 of two, then the 208 of one (R80), each group
in the order of the opcode bytes (Lean's compiler limits how late a constructor with an operand may
stand). A 2-byte instruction carries its `d8` or `port` byte and a 3-byte instruction its `d16` or
`a16` (R81, R83, R84). The twelve rows marked `*` (R93) have constructors of their own, named after
the opcode byte. -/
inductive Instr where
  | lxiB (d16 : Word)  -- 0x01 LXI B,d16, R156
  | lxiD (d16 : Word)  -- 0x11 LXI D,d16, R156
  | lxiH (d16 : Word)  -- 0x21 LXI H,d16, R156
  | shld (a16 : Word)  -- 0x22 SHLD a16, R160
  | lhld (a16 : Word)  -- 0x2A LHLD a16, R159
  | lxiSP (d16 : Word)  -- 0x31 LXI SP,d16, R156
  | sta (a16 : Word)  -- 0x32 STA a16, R158
  | lda (a16 : Word)  -- 0x3A LDA a16, R157
  | jnz (a16 : Word)  -- 0xC2 JNZ a16, R252
  | jmp (a16 : Word)  -- 0xC3 JMP a16, R251
  | cnz (a16 : Word)  -- 0xC4 CNZ a16, R254
  | jz (a16 : Word)  -- 0xCA JZ a16, R252
  | jmpCB (a16 : Word)  -- 0xCB *JMP a16, R259
  | cz (a16 : Word)  -- 0xCC CZ a16, R254
  | call (a16 : Word)  -- 0xCD CALL a16, R253
  | jnc (a16 : Word)  -- 0xD2 JNC a16, R252
  | cnc (a16 : Word)  -- 0xD4 CNC a16, R254
  | jc (a16 : Word)  -- 0xDA JC a16, R252
  | cc (a16 : Word)  -- 0xDC CC a16, R254
  | callDD (a16 : Word)  -- 0xDD *CALL a16, R261
  | jpo (a16 : Word)  -- 0xE2 JPO a16, R252
  | cpo (a16 : Word)  -- 0xE4 CPO a16, R254
  | jpe (a16 : Word)  -- 0xEA JPE a16, R252
  | cpe (a16 : Word)  -- 0xEC CPE a16, R254
  | callED (a16 : Word)  -- 0xED *CALL a16, R261
  | jp (a16 : Word)  -- 0xF2 JP a16, R252
  | cp (a16 : Word)  -- 0xF4 CP a16, R254
  | jm (a16 : Word)  -- 0xFA JM a16, R252
  | cm (a16 : Word)  -- 0xFC CM a16, R254
  | callFD (a16 : Word)  -- 0xFD *CALL a16, R261
  | mviB (d8 : Byte)  -- 0x06 MVI B,d8, R154
  | mviC (d8 : Byte)  -- 0x0E MVI C,d8, R154
  | mviD (d8 : Byte)  -- 0x16 MVI D,d8, R154
  | mviE (d8 : Byte)  -- 0x1E MVI E,d8, R154
  | mviH (d8 : Byte)  -- 0x26 MVI H,d8, R154
  | mviL (d8 : Byte)  -- 0x2E MVI L,d8, R154
  | mviM (d8 : Byte)  -- 0x36 MVI M,d8, R155
  | mviA (d8 : Byte)  -- 0x3E MVI A,d8, R154
  | adi (d8 : Byte)  -- 0xC6 ADI d8, R183
  | aci (d8 : Byte)  -- 0xCE ACI d8, R186
  | outPort (port : Byte)  -- 0xD3 OUT port, R288
  | sui (d8 : Byte)  -- 0xD6 SUI d8, R189
  | inPort (port : Byte)  -- 0xDB IN port, R287
  | sbi (d8 : Byte)  -- 0xDE SBI d8, R192
  | ani (d8 : Byte)  -- 0xE6 ANI d8, R223
  | xri (d8 : Byte)  -- 0xEE XRI d8, R226
  | ori (d8 : Byte)  -- 0xF6 ORI d8, R229
  | cpi (d8 : Byte)  -- 0xFE CPI d8, R232
  | nop  -- 0x00 NOP, R292
  | staxB  -- 0x02 STAX B, R162
  | inxB  -- 0x03 INX B, R197
  | inrB  -- 0x04 INR B, R193
  | dcrB  -- 0x05 DCR B, R195
  | rlc  -- 0x07 RLC, R233
  | nop08  -- 0x08 *NOP, R293
  | dadB  -- 0x09 DAD B, R199
  | ldaxB  -- 0x0A LDAX B, R161
  | dcxB  -- 0x0B DCX B, R198
  | inrC  -- 0x0C INR C, R193
  | dcrC  -- 0x0D DCR C, R195
  | rrc  -- 0x0F RRC, R234
  | nop10  -- 0x10 *NOP, R293
  | staxD  -- 0x12 STAX D, R162
  | inxD  -- 0x13 INX D, R197
  | inrD  -- 0x14 INR D, R193
  | dcrD  -- 0x15 DCR D, R195
  | ral  -- 0x17 RAL, R235
  | nop18  -- 0x18 *NOP, R293
  | dadD  -- 0x19 DAD D, R199
  | ldaxD  -- 0x1A LDAX D, R161
  | dcxD  -- 0x1B DCX D, R198
  | inrE  -- 0x1C INR E, R193
  | dcrE  -- 0x1D DCR E, R195
  | rar  -- 0x1F RAR, R236
  | nop20  -- 0x20 *NOP, R293
  | inxH  -- 0x23 INX H, R197
  | inrH  -- 0x24 INR H, R193
  | dcrH  -- 0x25 DCR H, R195
  | daa  -- 0x27 DAA, R200
  | nop28  -- 0x28 *NOP, R293
  | dadH  -- 0x29 DAD H, R199
  | dcxH  -- 0x2B DCX H, R198
  | inrL  -- 0x2C INR L, R193
  | dcrL  -- 0x2D DCR L, R195
  | cma  -- 0x2F CMA, R237
  | nop30  -- 0x30 *NOP, R293
  | inxSP  -- 0x33 INX SP, R197
  | inrM  -- 0x34 INR M, R194
  | dcrM  -- 0x35 DCR M, R196
  | stc  -- 0x37 STC, R239
  | nop38  -- 0x38 *NOP, R293
  | dadSP  -- 0x39 DAD SP, R199
  | dcxSP  -- 0x3B DCX SP, R198
  | inrA  -- 0x3C INR A, R193
  | dcrA  -- 0x3D DCR A, R195
  | cmc  -- 0x3F CMC, R238
  | movBB  -- 0x40 MOV B,B, R151
  | movBC  -- 0x41 MOV B,C, R151
  | movBD  -- 0x42 MOV B,D, R151
  | movBE  -- 0x43 MOV B,E, R151
  | movBH  -- 0x44 MOV B,H, R151
  | movBL  -- 0x45 MOV B,L, R151
  | movBM  -- 0x46 MOV B,M, R152
  | movBA  -- 0x47 MOV B,A, R151
  | movCB  -- 0x48 MOV C,B, R151
  | movCC  -- 0x49 MOV C,C, R151
  | movCD  -- 0x4A MOV C,D, R151
  | movCE  -- 0x4B MOV C,E, R151
  | movCH  -- 0x4C MOV C,H, R151
  | movCL  -- 0x4D MOV C,L, R151
  | movCM  -- 0x4E MOV C,M, R152
  | movCA  -- 0x4F MOV C,A, R151
  | movDB  -- 0x50 MOV D,B, R151
  | movDC  -- 0x51 MOV D,C, R151
  | movDD  -- 0x52 MOV D,D, R151
  | movDE  -- 0x53 MOV D,E, R151
  | movDH  -- 0x54 MOV D,H, R151
  | movDL  -- 0x55 MOV D,L, R151
  | movDM  -- 0x56 MOV D,M, R152
  | movDA  -- 0x57 MOV D,A, R151
  | movEB  -- 0x58 MOV E,B, R151
  | movEC  -- 0x59 MOV E,C, R151
  | movED  -- 0x5A MOV E,D, R151
  | movEE  -- 0x5B MOV E,E, R151
  | movEH  -- 0x5C MOV E,H, R151
  | movEL  -- 0x5D MOV E,L, R151
  | movEM  -- 0x5E MOV E,M, R152
  | movEA  -- 0x5F MOV E,A, R151
  | movHB  -- 0x60 MOV H,B, R151
  | movHC  -- 0x61 MOV H,C, R151
  | movHD  -- 0x62 MOV H,D, R151
  | movHE  -- 0x63 MOV H,E, R151
  | movHH  -- 0x64 MOV H,H, R151
  | movHL  -- 0x65 MOV H,L, R151
  | movHM  -- 0x66 MOV H,M, R152
  | movHA  -- 0x67 MOV H,A, R151
  | movLB  -- 0x68 MOV L,B, R151
  | movLC  -- 0x69 MOV L,C, R151
  | movLD  -- 0x6A MOV L,D, R151
  | movLE  -- 0x6B MOV L,E, R151
  | movLH  -- 0x6C MOV L,H, R151
  | movLL  -- 0x6D MOV L,L, R151
  | movLM  -- 0x6E MOV L,M, R152
  | movLA  -- 0x6F MOV L,A, R151
  | movMB  -- 0x70 MOV M,B, R153
  | movMC  -- 0x71 MOV M,C, R153
  | movMD  -- 0x72 MOV M,D, R153
  | movME  -- 0x73 MOV M,E, R153
  | movMH  -- 0x74 MOV M,H, R153
  | movML  -- 0x75 MOV M,L, R153
  | hlt  -- 0x76 HLT, R291
  | movMA  -- 0x77 MOV M,A, R153
  | movAB  -- 0x78 MOV A,B, R151
  | movAC  -- 0x79 MOV A,C, R151
  | movAD  -- 0x7A MOV A,D, R151
  | movAE  -- 0x7B MOV A,E, R151
  | movAH  -- 0x7C MOV A,H, R151
  | movAL  -- 0x7D MOV A,L, R151
  | movAM  -- 0x7E MOV A,M, R152
  | movAA  -- 0x7F MOV A,A, R151
  | addB  -- 0x80 ADD B, R181
  | addC  -- 0x81 ADD C, R181
  | addD  -- 0x82 ADD D, R181
  | addE  -- 0x83 ADD E, R181
  | addH  -- 0x84 ADD H, R181
  | addL  -- 0x85 ADD L, R181
  | addM  -- 0x86 ADD M, R182
  | addA  -- 0x87 ADD A, R181
  | adcB  -- 0x88 ADC B, R184
  | adcC  -- 0x89 ADC C, R184
  | adcD  -- 0x8A ADC D, R184
  | adcE  -- 0x8B ADC E, R184
  | adcH  -- 0x8C ADC H, R184
  | adcL  -- 0x8D ADC L, R184
  | adcM  -- 0x8E ADC M, R185
  | adcA  -- 0x8F ADC A, R184
  | subB  -- 0x90 SUB B, R187
  | subC  -- 0x91 SUB C, R187
  | subD  -- 0x92 SUB D, R187
  | subE  -- 0x93 SUB E, R187
  | subH  -- 0x94 SUB H, R187
  | subL  -- 0x95 SUB L, R187
  | subM  -- 0x96 SUB M, R188
  | subA  -- 0x97 SUB A, R187
  | sbbB  -- 0x98 SBB B, R190
  | sbbC  -- 0x99 SBB C, R190
  | sbbD  -- 0x9A SBB D, R190
  | sbbE  -- 0x9B SBB E, R190
  | sbbH  -- 0x9C SBB H, R190
  | sbbL  -- 0x9D SBB L, R190
  | sbbM  -- 0x9E SBB M, R191
  | sbbA  -- 0x9F SBB A, R190
  | anaB  -- 0xA0 ANA B, R221
  | anaC  -- 0xA1 ANA C, R221
  | anaD  -- 0xA2 ANA D, R221
  | anaE  -- 0xA3 ANA E, R221
  | anaH  -- 0xA4 ANA H, R221
  | anaL  -- 0xA5 ANA L, R221
  | anaM  -- 0xA6 ANA M, R222
  | anaA  -- 0xA7 ANA A, R221
  | xraB  -- 0xA8 XRA B, R224
  | xraC  -- 0xA9 XRA C, R224
  | xraD  -- 0xAA XRA D, R224
  | xraE  -- 0xAB XRA E, R224
  | xraH  -- 0xAC XRA H, R224
  | xraL  -- 0xAD XRA L, R224
  | xraM  -- 0xAE XRA M, R225
  | xraA  -- 0xAF XRA A, R224
  | oraB  -- 0xB0 ORA B, R227
  | oraC  -- 0xB1 ORA C, R227
  | oraD  -- 0xB2 ORA D, R227
  | oraE  -- 0xB3 ORA E, R227
  | oraH  -- 0xB4 ORA H, R227
  | oraL  -- 0xB5 ORA L, R227
  | oraM  -- 0xB6 ORA M, R228
  | oraA  -- 0xB7 ORA A, R227
  | cmpB  -- 0xB8 CMP B, R230
  | cmpC  -- 0xB9 CMP C, R230
  | cmpD  -- 0xBA CMP D, R230
  | cmpE  -- 0xBB CMP E, R230
  | cmpH  -- 0xBC CMP H, R230
  | cmpL  -- 0xBD CMP L, R230
  | cmpM  -- 0xBE CMP M, R231
  | cmpA  -- 0xBF CMP A, R230
  | rnz  -- 0xC0 RNZ, R256
  | popB  -- 0xC1 POP B, R283
  | pushB  -- 0xC5 PUSH B, R281
  | rst0  -- 0xC7 RST 0, R257
  | rz  -- 0xC8 RZ, R256
  | ret  -- 0xC9 RET, R255
  | rst1  -- 0xCF RST 1, R257
  | rnc  -- 0xD0 RNC, R256
  | popD  -- 0xD1 POP D, R283
  | pushD  -- 0xD5 PUSH D, R281
  | rst2  -- 0xD7 RST 2, R257
  | rc  -- 0xD8 RC, R256
  | retD9  -- 0xD9 *RET, R260
  | rst3  -- 0xDF RST 3, R257
  | rpo  -- 0xE0 RPO, R256
  | popH  -- 0xE1 POP H, R283
  | xthl  -- 0xE3 XTHL, R285
  | pushH  -- 0xE5 PUSH H, R281
  | rst4  -- 0xE7 RST 4, R257
  | rpe  -- 0xE8 RPE, R256
  | pchl  -- 0xE9 PCHL, R258
  | xchg  -- 0xEB XCHG, R163
  | rst5  -- 0xEF RST 5, R257
  | rp  -- 0xF0 RP, R256
  | popPSW  -- 0xF1 POP PSW, R284
  | di  -- 0xF3 DI, R290
  | pushPSW  -- 0xF5 PUSH PSW, R282
  | rst6  -- 0xF7 RST 6, R257
  | rm  -- 0xF8 RM, R256
  | sphl  -- 0xF9 SPHL, R286
  | ei  -- 0xFB EI, R289
  | rst7  -- 0xFF RST 7, R257
  deriving DecidableEq, Repr

end Sys2Proof
end

