-- ==== Sys2Proof/Machine/Flags.lean ====
section
/-! DEFINITION. The flag computation unit (40_alu_and_addressing.md R120 to R127, R132, R137), the
decimal adjustment of R200, and the packed flags byte (10_state.md R34, R35). -/

namespace Sys2Proof.Machine

/-- The number of 1 bits of a byte (00_scope.md R7). -/
def popcount (r : Byte) : Nat :=
  (r.getLsbD 0).toNat + (r.getLsbD 1).toNat + (r.getLsbD 2).toNat + (r.getLsbD 3).toNat +
  (r.getLsbD 4).toNat + (r.getLsbD 5).toNat + (r.getLsbD 6).toNat + (r.getLsbD 7).toNat

/-- `setZSP(r)` (R120, R121). -/
def setZSP (r : Byte) (f : Flags) : Flags :=
  { f with z := r == 0, s := r.getLsbD 7, p := popcount r % 2 == 0 }

/-- An arithmetic instruction's write to the auxiliary carry: none in `preserve`, `v` in `intel`
(R124). -/
def setArithmeticAC (mode : AuxCarryMode) (v : Bool) (f : Flags) : Flags :=
  match mode with
  | .preserve => f
  | .intel => { f with ac := v }

/-- `add8(a, b, cin)` (R122): the sum and the flags after it. -/
def add8 (mode : AuxCarryMode) (a b : Byte) (cin : Bool) (f : Flags) : Byte × Flags :=
  let t := a.toNat + b.toNat + cin.toNat
  let r := BitVec.ofNat 8 t
  let ac := decide (a.toNat % 16 + b.toNat % 16 + cin.toNat > 15)
  (r, setArithmeticAC mode ac (setZSP r { f with cy := decide (t > 255) }))

/-- `sub8(a, b, bin)` (R123): the difference and the flags after it. -/
def sub8 (mode : AuxCarryMode) (a b : Byte) (bin : Bool) (f : Flags) : Byte × Flags :=
  let t : Int := (a.toNat : Int) - (b.toNat : Int) - (bin.toNat : Int)
  let r := BitVec.ofInt 8 t
  let low : Int := ((a.toNat % 16 : Nat) : Int) - ((b.toNat % 16 : Nat) : Int) - (bin.toNat : Int)
  (r, setArithmeticAC mode (decide (low ≥ 0)) (setZSP r { f with cy := decide (t < 0) }))

/-- `inc8(v)` (R126): CY is not written. -/
def inc8 (mode : AuxCarryMode) (v : Byte) (f : Flags) : Byte × Flags :=
  let r := BitVec.ofNat 8 (v.toNat + 1)
  (r, setArithmeticAC mode (decide (v.toNat % 16 = 15)) (setZSP r f))

/-- `dec8(v)` (R127): CY is not written. -/
def dec8 (mode : AuxCarryMode) (v : Byte) (f : Flags) : Byte × Flags :=
  let r := BitVec.ofInt 8 ((v.toNat : Int) - 1)
  (r, setArithmeticAC mode (decide (v.toNat % 16 ≠ 0)) (setZSP r f))

/-- `logic8(r)` (R137): CY and AC are cleared in both modes. -/
def logic8 (r : Byte) (f : Flags) : Flags :=
  { setZSP r f with cy := false, ac := false }

/-- DAA (42_arithmetic.md R200): the adjusted accumulator and the flags after it. -/
def daa8 (mode : AuxCarryMode) (a : Byte) (f : Flags) : Byte × Flags :=
  let lsb := a.toNat % 16
  let msb := a.toNat / 16
  let low := f.ac || decide (lsb > 9)
  let high := f.cy || decide (msb > 9) || (decide (msb ≥ 9) && decide (lsb > 9))
  let corr := (if low then 0x06 else 0) + (if high then 0x60 else 0)
  let r := BitVec.ofNat 8 (a.toNat + corr)
  let ac := decide (lsb + corr % 16 > 15)
  (r, setArithmeticAC mode ac (setZSP r { f with cy := f.cy || high }))

/-- `cond(ccc)` (R132). -/
def condHolds (ccc : Cond) (f : Flags) : Bool :=
  match ccc with
  | .nz => !f.z
  | .z => f.z
  | .nc => !f.cy
  | .c => f.cy
  | .po => !f.p
  | .pe => f.p
  | .p => !f.s
  | .m => f.s

/-- `packF()` (10_state.md R34): bits 7 to 5 are 0, then AC, CY, P, S, and Z in bit 0. -/
def packF (f : Flags) : Byte :=
  0#3 ++ BitVec.ofBool f.ac ++ BitVec.ofBool f.cy ++ BitVec.ofBool f.p ++ BitVec.ofBool f.s ++
    BitVec.ofBool f.z

/-- `unpackF(b)` (10_state.md R35): bits 7 to 5 are ignored. -/
def unpackF (b : Byte) : Flags where
  z := b.getLsbD 0
  s := b.getLsbD 1
  p := b.getLsbD 2
  cy := b.getLsbD 3
  ac := b.getLsbD 4

end Sys2Proof.Machine
end

