-- ==== Sys2Proof/Decode.lean ====
section
/-! DEFINITION. The decoder, one ordered table of 256 rows indexed by the opcode byte
(30_encoding.md R91, R92), and the encoder written from the same table. -/

namespace Sys2Proof

/-- Bits 15 to 8 of a 16-bit value. -/
def hiByte (w : Word) : Byte := w.extractLsb' 8 8

/-- Bits 7 to 0 of a 16-bit value. -/
def loByte (w : Word) : Byte := w.extractLsb' 0 8

/-- `hi ++ lo`: the left operand is the high byte (00_scope.md R8). -/
def joinBytes (hi lo : Byte) : Word := hi ++ lo

/-- An entry of the opcode table, by its format (R81): one byte, one byte and an 8-bit operand, or
one byte and a 16-bit operand. -/
inductive OpcodeRow where
  | f1 (instr : Instr)
  | f2 (mk : Byte → Instr)
  | f3 (mk : Word → Instr)

/-- Row 0x of the opcode map (R91). -/
def opcodeRows0 : List OpcodeRow :=
  [.f1 .nop, .f3 .lxiB, .f1 .staxB, .f1 .inxB,
   .f1 .inrB, .f1 .dcrB, .f2 .mviB, .f1 .rlc,
   .f1 .nop08, .f1 .dadB, .f1 .ldaxB, .f1 .dcxB,
   .f1 .inrC, .f1 .dcrC, .f2 .mviC, .f1 .rrc]

/-- Row 1x of the opcode map (R91). -/
def opcodeRows1 : List OpcodeRow :=
  [.f1 .nop10, .f3 .lxiD, .f1 .staxD, .f1 .inxD,
   .f1 .inrD, .f1 .dcrD, .f2 .mviD, .f1 .ral,
   .f1 .nop18, .f1 .dadD, .f1 .ldaxD, .f1 .dcxD,
   .f1 .inrE, .f1 .dcrE, .f2 .mviE, .f1 .rar]

/-- Row 2x of the opcode map (R91). -/
def opcodeRows2 : List OpcodeRow :=
  [.f1 .nop20, .f3 .lxiH, .f3 .shld, .f1 .inxH,
   .f1 .inrH, .f1 .dcrH, .f2 .mviH, .f1 .daa,
   .f1 .nop28, .f1 .dadH, .f3 .lhld, .f1 .dcxH,
   .f1 .inrL, .f1 .dcrL, .f2 .mviL, .f1 .cma]

/-- Row 3x of the opcode map (R91). -/
def opcodeRows3 : List OpcodeRow :=
  [.f1 .nop30, .f3 .lxiSP, .f3 .sta, .f1 .inxSP,
   .f1 .inrM, .f1 .dcrM, .f2 .mviM, .f1 .stc,
   .f1 .nop38, .f1 .dadSP, .f3 .lda, .f1 .dcxSP,
   .f1 .inrA, .f1 .dcrA, .f2 .mviA, .f1 .cmc]

/-- Row 4x of the opcode map (R91). -/
def opcodeRows4 : List OpcodeRow :=
  [.f1 .movBB, .f1 .movBC, .f1 .movBD, .f1 .movBE,
   .f1 .movBH, .f1 .movBL, .f1 .movBM, .f1 .movBA,
   .f1 .movCB, .f1 .movCC, .f1 .movCD, .f1 .movCE,
   .f1 .movCH, .f1 .movCL, .f1 .movCM, .f1 .movCA]

/-- Row 5x of the opcode map (R91). -/
def opcodeRows5 : List OpcodeRow :=
  [.f1 .movDB, .f1 .movDC, .f1 .movDD, .f1 .movDE,
   .f1 .movDH, .f1 .movDL, .f1 .movDM, .f1 .movDA,
   .f1 .movEB, .f1 .movEC, .f1 .movED, .f1 .movEE,
   .f1 .movEH, .f1 .movEL, .f1 .movEM, .f1 .movEA]

/-- Row 6x of the opcode map (R91). -/
def opcodeRows6 : List OpcodeRow :=
  [.f1 .movHB, .f1 .movHC, .f1 .movHD, .f1 .movHE,
   .f1 .movHH, .f1 .movHL, .f1 .movHM, .f1 .movHA,
   .f1 .movLB, .f1 .movLC, .f1 .movLD, .f1 .movLE,
   .f1 .movLH, .f1 .movLL, .f1 .movLM, .f1 .movLA]

/-- Row 7x of the opcode map (R91). -/
def opcodeRows7 : List OpcodeRow :=
  [.f1 .movMB, .f1 .movMC, .f1 .movMD, .f1 .movME,
   .f1 .movMH, .f1 .movML, .f1 .hlt, .f1 .movMA,
   .f1 .movAB, .f1 .movAC, .f1 .movAD, .f1 .movAE,
   .f1 .movAH, .f1 .movAL, .f1 .movAM, .f1 .movAA]

/-- Row 8x of the opcode map (R91). -/
def opcodeRows8 : List OpcodeRow :=
  [.f1 .addB, .f1 .addC, .f1 .addD, .f1 .addE,
   .f1 .addH, .f1 .addL, .f1 .addM, .f1 .addA,
   .f1 .adcB, .f1 .adcC, .f1 .adcD, .f1 .adcE,
   .f1 .adcH, .f1 .adcL, .f1 .adcM, .f1 .adcA]

/-- Row 9x of the opcode map (R91). -/
def opcodeRows9 : List OpcodeRow :=
  [.f1 .subB, .f1 .subC, .f1 .subD, .f1 .subE,
   .f1 .subH, .f1 .subL, .f1 .subM, .f1 .subA,
   .f1 .sbbB, .f1 .sbbC, .f1 .sbbD, .f1 .sbbE,
   .f1 .sbbH, .f1 .sbbL, .f1 .sbbM, .f1 .sbbA]

/-- Row Ax of the opcode map (R91). -/
def opcodeRowsA : List OpcodeRow :=
  [.f1 .anaB, .f1 .anaC, .f1 .anaD, .f1 .anaE,
   .f1 .anaH, .f1 .anaL, .f1 .anaM, .f1 .anaA,
   .f1 .xraB, .f1 .xraC, .f1 .xraD, .f1 .xraE,
   .f1 .xraH, .f1 .xraL, .f1 .xraM, .f1 .xraA]

/-- Row Bx of the opcode map (R91). -/
def opcodeRowsB : List OpcodeRow :=
  [.f1 .oraB, .f1 .oraC, .f1 .oraD, .f1 .oraE,
   .f1 .oraH, .f1 .oraL, .f1 .oraM, .f1 .oraA,
   .f1 .cmpB, .f1 .cmpC, .f1 .cmpD, .f1 .cmpE,
   .f1 .cmpH, .f1 .cmpL, .f1 .cmpM, .f1 .cmpA]

/-- Row Cx of the opcode map (R91). -/
def opcodeRowsC : List OpcodeRow :=
  [.f1 .rnz, .f1 .popB, .f3 .jnz, .f3 .jmp,
   .f3 .cnz, .f1 .pushB, .f2 .adi, .f1 .rst0,
   .f1 .rz, .f1 .ret, .f3 .jz, .f3 .jmpCB,
   .f3 .cz, .f3 .call, .f2 .aci, .f1 .rst1]

/-- Row Dx of the opcode map (R91). -/
def opcodeRowsD : List OpcodeRow :=
  [.f1 .rnc, .f1 .popD, .f3 .jnc, .f2 .outPort,
   .f3 .cnc, .f1 .pushD, .f2 .sui, .f1 .rst2,
   .f1 .rc, .f1 .retD9, .f3 .jc, .f2 .inPort,
   .f3 .cc, .f3 .callDD, .f2 .sbi, .f1 .rst3]

/-- Row Ex of the opcode map (R91). -/
def opcodeRowsE : List OpcodeRow :=
  [.f1 .rpo, .f1 .popH, .f3 .jpo, .f1 .xthl,
   .f3 .cpo, .f1 .pushH, .f2 .ani, .f1 .rst4,
   .f1 .rpe, .f1 .pchl, .f3 .jpe, .f1 .xchg,
   .f3 .cpe, .f3 .callED, .f2 .xri, .f1 .rst5]

/-- Row Fx of the opcode map (R91). -/
def opcodeRowsF : List OpcodeRow :=
  [.f1 .rp, .f1 .popPSW, .f3 .jp, .f1 .di,
   .f3 .cp, .f1 .pushPSW, .f2 .ori, .f1 .rst6,
   .f1 .rm, .f1 .sphl, .f3 .jm, .f1 .ei,
   .f3 .cm, .f3 .callFD, .f2 .cpi, .f1 .rst7]

/-- The opcode table: entry `n` is the row of opcode byte `n` (R91, R92). -/
def opcodeTable : List OpcodeRow :=
  opcodeRows0 ++ (opcodeRows1 ++ (opcodeRows2 ++ (opcodeRows3 ++ (opcodeRows4 ++ (opcodeRows5 ++
  (opcodeRows6 ++ (opcodeRows7 ++ (opcodeRows8 ++ (opcodeRows9 ++ (opcodeRowsA ++ (opcodeRowsB ++
  (opcodeRowsC ++ (opcodeRowsD ++ (opcodeRowsE ++ opcodeRowsF))))))))))))))

/-- Why a string of bytes is no instruction. `noHandler` names a gap of the table; the table has
none (R92), so it never occurs. -/
inductive DecodeError where
  | noBytes
  | truncated (opcode : Byte)
  | noHandler (opcode : Byte)
  deriving DecidableEq, Repr

/-- The length in bytes of a row's instruction (R81). -/
def rowLength : OpcodeRow → Nat
  | .f1 _ => 1
  | .f2 _ => 2
  | .f3 _ => 3

/-- The length of the instruction an opcode byte begins: the opcode alone decides it (R80). A byte
with no row would count as one byte long; the table has no such byte. -/
def opcodeLength (op : Byte) : Nat :=
  match opcodeTable[op.toNat]? with
  | some row => rowLength row
  | none => 1

/-- A row applied to the bytes after the opcode: the operand and the bytes left over. The 16-bit
operand has its low byte first, `imm16 = b3 ++ b2` (R84). -/
def applyRow : OpcodeRow → List Byte → Option (Instr × List Byte)
  | .f1 i, rest => some (i, rest)
  | .f2 mk, b2 :: rest => some (mk b2, rest)
  | .f2 _, [] => none
  | .f3 mk, b2 :: b3 :: rest => some (mk (joinBytes b3 b2), rest)
  | .f3 _, [_] => none
  | .f3 _, [] => none

/-- Decoding (R92, R99): the instruction that a string of bytes begins with, and the bytes after
it. Total on any bytes; it rejects only a string too short for its opcode. -/
def decode : List Byte → Except DecodeError (Instr × List Byte)
  | [] => .error .noBytes
  | op :: rest =>
    match opcodeTable[op.toNat]? with
    | none => .error (.noHandler op)
    | some row =>
      match applyRow row rest with
      | none => .error (.truncated op)
      | some r => .ok r

/-- Encoding: the bytes of an instruction in memory order, from the spec's encodings
(spec/opcode_table.json `encoding`, R81, R84). -/
def encode : Instr → List Byte
  | .nop => [0x00]
  | .lxiB d16 => [0x01, loByte d16, hiByte d16]
  | .staxB => [0x02]
  | .inxB => [0x03]
  | .inrB => [0x04]
  | .dcrB => [0x05]
  | .mviB d8 => [0x06, d8]
  | .rlc => [0x07]
  | .nop08 => [0x08]
  | .dadB => [0x09]
  | .ldaxB => [0x0A]
  | .dcxB => [0x0B]
  | .inrC => [0x0C]
  | .dcrC => [0x0D]
  | .mviC d8 => [0x0E, d8]
  | .rrc => [0x0F]
  | .nop10 => [0x10]
  | .lxiD d16 => [0x11, loByte d16, hiByte d16]
  | .staxD => [0x12]
  | .inxD => [0x13]
  | .inrD => [0x14]
  | .dcrD => [0x15]
  | .mviD d8 => [0x16, d8]
  | .ral => [0x17]
  | .nop18 => [0x18]
  | .dadD => [0x19]
  | .ldaxD => [0x1A]
  | .dcxD => [0x1B]
  | .inrE => [0x1C]
  | .dcrE => [0x1D]
  | .mviE d8 => [0x1E, d8]
  | .rar => [0x1F]
  | .nop20 => [0x20]
  | .lxiH d16 => [0x21, loByte d16, hiByte d16]
  | .shld a16 => [0x22, loByte a16, hiByte a16]
  | .inxH => [0x23]
  | .inrH => [0x24]
  | .dcrH => [0x25]
  | .mviH d8 => [0x26, d8]
  | .daa => [0x27]
  | .nop28 => [0x28]
  | .dadH => [0x29]
  | .lhld a16 => [0x2A, loByte a16, hiByte a16]
  | .dcxH => [0x2B]
  | .inrL => [0x2C]
  | .dcrL => [0x2D]
  | .mviL d8 => [0x2E, d8]
  | .cma => [0x2F]
  | .nop30 => [0x30]
  | .lxiSP d16 => [0x31, loByte d16, hiByte d16]
  | .sta a16 => [0x32, loByte a16, hiByte a16]
  | .inxSP => [0x33]
  | .inrM => [0x34]
  | .dcrM => [0x35]
  | .mviM d8 => [0x36, d8]
  | .stc => [0x37]
  | .nop38 => [0x38]
  | .dadSP => [0x39]
  | .lda a16 => [0x3A, loByte a16, hiByte a16]
  | .dcxSP => [0x3B]
  | .inrA => [0x3C]
  | .dcrA => [0x3D]
  | .mviA d8 => [0x3E, d8]
  | .cmc => [0x3F]
  | .movBB => [0x40]
  | .movBC => [0x41]
  | .movBD => [0x42]
  | .movBE => [0x43]
  | .movBH => [0x44]
  | .movBL => [0x45]
  | .movBM => [0x46]
  | .movBA => [0x47]
  | .movCB => [0x48]
  | .movCC => [0x49]
  | .movCD => [0x4A]
  | .movCE => [0x4B]
  | .movCH => [0x4C]
  | .movCL => [0x4D]
  | .movCM => [0x4E]
  | .movCA => [0x4F]
  | .movDB => [0x50]
  | .movDC => [0x51]
  | .movDD => [0x52]
  | .movDE => [0x53]
  | .movDH => [0x54]
  | .movDL => [0x55]
  | .movDM => [0x56]
  | .movDA => [0x57]
  | .movEB => [0x58]
  | .movEC => [0x59]
  | .movED => [0x5A]
  | .movEE => [0x5B]
  | .movEH => [0x5C]
  | .movEL => [0x5D]
  | .movEM => [0x5E]
  | .movEA => [0x5F]
  | .movHB => [0x60]
  | .movHC => [0x61]
  | .movHD => [0x62]
  | .movHE => [0x63]
  | .movHH => [0x64]
  | .movHL => [0x65]
  | .movHM => [0x66]
  | .movHA => [0x67]
  | .movLB => [0x68]
  | .movLC => [0x69]
  | .movLD => [0x6A]
  | .movLE => [0x6B]
  | .movLH => [0x6C]
  | .movLL => [0x6D]
  | .movLM => [0x6E]
  | .movLA => [0x6F]
  | .movMB => [0x70]
  | .movMC => [0x71]
  | .movMD => [0x72]
  | .movME => [0x73]
  | .movMH => [0x74]
  | .movML => [0x75]
  | .hlt => [0x76]
  | .movMA => [0x77]
  | .movAB => [0x78]
  | .movAC => [0x79]
  | .movAD => [0x7A]
  | .movAE => [0x7B]
  | .movAH => [0x7C]
  | .movAL => [0x7D]
  | .movAM => [0x7E]
  | .movAA => [0x7F]
  | .addB => [0x80]
  | .addC => [0x81]
  | .addD => [0x82]
  | .addE => [0x83]
  | .addH => [0x84]
  | .addL => [0x85]
  | .addM => [0x86]
  | .addA => [0x87]
  | .adcB => [0x88]
  | .adcC => [0x89]
  | .adcD => [0x8A]
  | .adcE => [0x8B]
  | .adcH => [0x8C]
  | .adcL => [0x8D]
  | .adcM => [0x8E]
  | .adcA => [0x8F]
  | .subB => [0x90]
  | .subC => [0x91]
  | .subD => [0x92]
  | .subE => [0x93]
  | .subH => [0x94]
  | .subL => [0x95]
  | .subM => [0x96]
  | .subA => [0x97]
  | .sbbB => [0x98]
  | .sbbC => [0x99]
  | .sbbD => [0x9A]
  | .sbbE => [0x9B]
  | .sbbH => [0x9C]
  | .sbbL => [0x9D]
  | .sbbM => [0x9E]
  | .sbbA => [0x9F]
  | .anaB => [0xA0]
  | .anaC => [0xA1]
  | .anaD => [0xA2]
  | .anaE => [0xA3]
  | .anaH => [0xA4]
  | .anaL => [0xA5]
  | .anaM => [0xA6]
  | .anaA => [0xA7]
  | .xraB => [0xA8]
  | .xraC => [0xA9]
  | .xraD => [0xAA]
  | .xraE => [0xAB]
  | .xraH => [0xAC]
  | .xraL => [0xAD]
  | .xraM => [0xAE]
  | .xraA => [0xAF]
  | .oraB => [0xB0]
  | .oraC => [0xB1]
  | .oraD => [0xB2]
  | .oraE => [0xB3]
  | .oraH => [0xB4]
  | .oraL => [0xB5]
  | .oraM => [0xB6]
  | .oraA => [0xB7]
  | .cmpB => [0xB8]
  | .cmpC => [0xB9]
  | .cmpD => [0xBA]
  | .cmpE => [0xBB]
  | .cmpH => [0xBC]
  | .cmpL => [0xBD]
  | .cmpM => [0xBE]
  | .cmpA => [0xBF]
  | .rnz => [0xC0]
  | .popB => [0xC1]
  | .jnz a16 => [0xC2, loByte a16, hiByte a16]
  | .jmp a16 => [0xC3, loByte a16, hiByte a16]
  | .cnz a16 => [0xC4, loByte a16, hiByte a16]
  | .pushB => [0xC5]
  | .adi d8 => [0xC6, d8]
  | .rst0 => [0xC7]
  | .rz => [0xC8]
  | .ret => [0xC9]
  | .jz a16 => [0xCA, loByte a16, hiByte a16]
  | .jmpCB a16 => [0xCB, loByte a16, hiByte a16]
  | .cz a16 => [0xCC, loByte a16, hiByte a16]
  | .call a16 => [0xCD, loByte a16, hiByte a16]
  | .aci d8 => [0xCE, d8]
  | .rst1 => [0xCF]
  | .rnc => [0xD0]
  | .popD => [0xD1]
  | .jnc a16 => [0xD2, loByte a16, hiByte a16]
  | .outPort port => [0xD3, port]
  | .cnc a16 => [0xD4, loByte a16, hiByte a16]
  | .pushD => [0xD5]
  | .sui d8 => [0xD6, d8]
  | .rst2 => [0xD7]
  | .rc => [0xD8]
  | .retD9 => [0xD9]
  | .jc a16 => [0xDA, loByte a16, hiByte a16]
  | .inPort port => [0xDB, port]
  | .cc a16 => [0xDC, loByte a16, hiByte a16]
  | .callDD a16 => [0xDD, loByte a16, hiByte a16]
  | .sbi d8 => [0xDE, d8]
  | .rst3 => [0xDF]
  | .rpo => [0xE0]
  | .popH => [0xE1]
  | .jpo a16 => [0xE2, loByte a16, hiByte a16]
  | .xthl => [0xE3]
  | .cpo a16 => [0xE4, loByte a16, hiByte a16]
  | .pushH => [0xE5]
  | .ani d8 => [0xE6, d8]
  | .rst4 => [0xE7]
  | .rpe => [0xE8]
  | .pchl => [0xE9]
  | .jpe a16 => [0xEA, loByte a16, hiByte a16]
  | .xchg => [0xEB]
  | .cpe a16 => [0xEC, loByte a16, hiByte a16]
  | .callED a16 => [0xED, loByte a16, hiByte a16]
  | .xri d8 => [0xEE, d8]
  | .rst5 => [0xEF]
  | .rp => [0xF0]
  | .popPSW => [0xF1]
  | .jp a16 => [0xF2, loByte a16, hiByte a16]
  | .di => [0xF3]
  | .cp a16 => [0xF4, loByte a16, hiByte a16]
  | .pushPSW => [0xF5]
  | .ori d8 => [0xF6, d8]
  | .rst6 => [0xF7]
  | .rm => [0xF8]
  | .sphl => [0xF9]
  | .jm a16 => [0xFA, loByte a16, hiByte a16]
  | .ei => [0xFB]
  | .cm a16 => [0xFC, loByte a16, hiByte a16]
  | .callFD a16 => [0xFD, loByte a16, hiByte a16]
  | .cpi d8 => [0xFE, d8]
  | .rst7 => [0xFF]

/-- The opcode byte of an instruction. -/
def Instr.opcode (i : Instr) : Byte := (encode i).headD 0

/-- The 8-bit operand of a 2-byte instruction: its second byte (R83). -/
def Instr.imm8 (i : Instr) : Byte := (encode i).getD 1 0

/-- The 16-bit operand of a 3-byte instruction: `b3 ++ b2` (R84). -/
def Instr.imm16 (i : Instr) : Word := joinBytes ((encode i).getD 2 0) ((encode i).getD 1 0)

/-- The first three bytes of an instruction given as one number, the first byte its least
significant. Bits at and above `nbits` are 0. -/
def tableWordBytes (nbits w : Nat) : List Byte :=
  let v := w % 2 ^ nbits
  [BitVec.ofNat 8 v, BitVec.ofNat 8 (v / 256), BitVec.ofNat 8 (v / 65536)]

/-- The instruction the decoder reads from the bits of a row of spec/opcode_table.json. -/
def decodeTableWord (nbits w : Nat) : Option Instr :=
  match decode (tableWordBytes nbits w) with
  | .ok r => some r.1
  | .error _ => none

end Sys2Proof
end

