-- ==== Sys2Proof/Machine/Ops.lean ====
section
/-! DEFINITION. The named operations over memory, registers, the stack, the program counter and the
event output. There is no trap mechanism to take or return from (60_exceptions.md R318, R319). -/

namespace Sys2Proof.Machine

/-! Memory (20_memory.md). -/

/-- The byte at an address: what is listed there, else 0x00, the reset content (R343). -/
def memLookup : List Host.Cell → Nat → Byte
  | [], _ => 0x00
  | (k, v) :: rest, a => if k = a then v else memLookup rest a

/-- The cells of every other address. -/
def memErase (m : List Host.Cell) (a : Nat) : List Host.Cell :=
  m.filter fun c => c.1 != a

/-- A cell put in its place in rising order. -/
def memInsert (a : Nat) (v : Byte) : List Host.Cell → List Host.Cell
  | [] => [(a, v)]
  | (k, w) :: rest => if k < a then (k, w) :: memInsert a v rest else (a, v) :: (k, w) :: rest

/-- One byte written. A byte 0x00 is not listed, since an unlisted byte reads so. -/
def memStore (m : List Host.Cell) (a : Nat) (v : Byte) : List Host.Cell :=
  if v = 0x00 then memErase m a else memInsert a v (memErase m a)

/-- Every address is at least `lo`, the addresses rise strictly below 65,536, and no byte is 0x00. -/
def memWellFormedFrom : Nat → List Host.Cell → Bool
  | _, [] => true
  | lo, (k, v) :: rest => decide (lo ≤ k ∧ k < 65536 ∧ v ≠ 0x00) && memWellFormedFrom (k + 1) rest

/-- The canonical form of memory. -/
def Memory.wf (m : List Host.Cell) : Bool := memWellFormedFrom 0 m

/-- `MemRead(a, 1)` (R52). An address is a 16-bit value, so it is taken modulo 65,536 (R51). -/
def State.readByte (s : State) (a : Word) : Byte := memLookup s.mem a.toNat

/-- `MemWrite(a, 1, v)` (R52). -/
def State.writeByte (s : State) (a : Word) (v : Byte) : State :=
  { s with mem := memStore s.mem a.toNat v }

/-- `MemRead(a, 2)`: the low byte at `a`, the high byte at `a + 1` modulo 65,536 (R53, R55). -/
def State.readWord (s : State) (a : Word) : Word := joinBytes (s.readByte (a + 1)) (s.readByte a)

/-- `MemWrite(a, 2, v)`: the low byte to `a`, then the high byte to `a + 1` (00_scope.md R10). -/
def State.writeWord (s : State) (a : Word) (v : Word) : State :=
  (s.writeByte a (loByte v)).writeByte (a + 1) (hiByte v)

/-! Registers and register pairs (10_state.md). -/

/-- `x[r]` (00_scope.md R9). -/
def State.getReg (s : State) : Reg → Byte
  | .a => s.a
  | .b => s.b
  | .c => s.c
  | .d => s.d
  | .e => s.e
  | .h => s.h
  | .l => s.l

/-- `x[r] <- v` (00_scope.md R9). -/
def State.setReg (s : State) (r : Reg) (v : Byte) : State :=
  match r with
  | .a => { s with a := v }
  | .b => { s with b := v }
  | .c => { s with c := v }
  | .d => { s with d := v }
  | .e => { s with e := v }
  | .h => { s with h := v }
  | .l => { s with l := v }

/-- BC = B ++ C (R23). -/
def State.bc (s : State) : Word := joinBytes s.b s.c

/-- DE = D ++ E (R23). -/
def State.de (s : State) : Word := joinBytes s.d s.e

/-- HL = H ++ L (R23). -/
def State.hl (s : State) : Word := joinBytes s.h s.l

/-- `BC <- v` (R24). -/
def State.setBC (s : State) (v : Word) : State := { s with b := hiByte v, c := loByte v }

/-- `DE <- v` (R24). -/
def State.setDE (s : State) (v : Word) : State := { s with d := hiByte v, e := loByte v }

/-- `HL <- v` (R24). -/
def State.setHL (s : State) (v : Word) : State := { s with h := hiByte v, l := loByte v }

/-- `F.CY <- v`, the other four flags kept. -/
def State.setCarry (s : State) (v : Bool) : State := { s with flags := { s.flags with cy := v } }

/-! The stack (40_alu_and_addressing.md R133, R134). -/

/-- `push16(v)`: the high byte to SP - 1, then the low byte to SP - 2, then SP less 2 (R133). -/
def State.push16 (s : State) (v : Word) : State :=
  let t := (s.writeByte (s.sp - 1) (hiByte v)).writeByte (s.sp - 2) (loByte v)
  { t with sp := s.sp - 2 }

/-- The value `pop16()` returns: the low byte from SP, the high byte from SP + 1 (R134). -/
def State.topOfStack (s : State) : Word := joinBytes (s.readByte (s.sp + 1)) (s.readByte s.sp)

/-- What `pop16()` does to the state: SP plus 2 (R134). -/
def State.dropTop (s : State) : State := { s with sp := s.sp + 2 }

/-! The program counter, fetch and events. -/

/-- `PC <- target`. -/
def State.jump (s : State) (target : Word) : State := { s with pc := target }

/-- The dispatcher's `PC <- (pc0 + len) mod 65536` (30_encoding.md R100). -/
def State.advancePc (s : State) (len : Nat) : State := { s with pc := s.pc + BitVec.ofNat 16 len }

/-- The bytes of the instruction at PC: as many as the opcode's length, at PC, PC + 1 and PC + 2
modulo 65,536 (30_encoding.md R99). -/
def State.fetchBytes (s : State) : List Byte :=
  let op := s.readByte s.pc
  [op, s.readByte (s.pc + 1), s.readByte (s.pc + 2)].take (opcodeLength op)

/-- `emit e` (00_scope.md R13). -/
def State.emit (s : State) (e : Event) : State := { s with events := s.events ++ [e] }

/-- Bytes written to memory from an offset upward. -/
def writeBytesAt : List Host.Cell → Nat → List Byte → List Host.Cell
  | m, _, [] => m
  | m, a, v :: rest => writeBytesAt (memStore m a v) (a + 1) rest

end Sys2Proof.Machine
end

