-- ==== Sys2Proof/Machine/Operands.lean ====
section
/-! DEFINITION. The operand addressing resolver (40_alu_and_addressing.md R128 to R131). -/

namespace Sys2Proof.Machine

/-- An operand's location: a named register or a memory address (R128). -/
inductive Loc where
  | reg (r : Reg)
  | mem (a : Word)
  deriving DecidableEq, Repr

/-- `loc(s)` (R128): selector M names the byte at the value HL has now (R129). -/
def State.loc (s : State) : Sel → Loc
  | .b => .reg .b
  | .c => .reg .c
  | .d => .reg .d
  | .e => .reg .e
  | .h => .reg .h
  | .l => .reg .l
  | .m => .mem s.hl
  | .a => .reg .a

/-- The byte at a location. -/
def State.readLoc (s : State) : Loc → Byte
  | .reg r => s.getReg r
  | .mem a => s.readByte a

/-- A byte written to a location. -/
def State.writeLoc (s : State) (x : Loc) (v : Byte) : State :=
  match x with
  | .reg r => s.setReg r v
  | .mem a => s.writeByte a v

/-- `getOp(s)` (R128). -/
def State.getOp (s : State) (x : Sel) : Byte := s.readLoc (s.loc x)

/-- `setOp(s, v)` (R128). -/
def State.setOp (s : State) (x : Sel) (v : Byte) : State := s.writeLoc (s.loc x) v

/-- `getRP(p)` (R130). -/
def State.getRP (s : State) : Pair → Word
  | .bc => s.bc
  | .de => s.de
  | .hl => s.hl
  | .sp => s.sp

/-- `setRP(p, v)` (R130). -/
def State.setRP (s : State) (p : Pair) (v : Word) : State :=
  match p with
  | .bc => s.setBC v
  | .de => s.setDE v
  | .hl => s.setHL v
  | .sp => { s with sp := v }

/-- PSW: A is the high byte and the flags byte the low byte (10_state.md R36). -/
def State.psw (s : State) : Word := joinBytes s.a (packF s.flags)

/-- `getRPpsw(p)` (R131). -/
def State.getRPpsw (s : State) : StackPair → Word
  | .bc => s.bc
  | .de => s.de
  | .hl => s.hl
  | .psw => s.psw

/-- `setRPpsw(p, v)` (R131). -/
def State.setRPpsw (s : State) (p : StackPair) (v : Word) : State :=
  match p with
  | .bc => s.setBC v
  | .de => s.setDE v
  | .hl => s.setHL v
  | .psw => { s with a := hiByte v, flags := unpackF (loByte v) }

end Sys2Proof.Machine
end

