-- ==== Sys2Proof/Machine/Arithmetic.lean ====
section
/-! DEFINITION. The arithmetic instructions (42_arithmetic.md). -/

namespace Sys2Proof.Machine

/-- `x[A] <- add8(x[A], v, cin)` (R181 to R186). -/
def addToA (v : Byte) (cin : Bool) (s : State) : State :=
  let r := add8 s.auxCarryMode s.a v cin s.flags
  { s with a := r.1, flags := r.2 }

/-- `x[A] <- sub8(x[A], v, bin)` (R187 to R192). -/
def subFromA (v : Byte) (bin : Bool) (s : State) : State :=
  let r := sub8 s.auxCarryMode s.a v bin s.flags
  { s with a := r.1, flags := r.2 }

/-- `setOp(ddd, inc8(getOp(ddd)))` (R193, R194); M is read and written at one address (R129). -/
def incOp (x : Sel) (s : State) : State :=
  let r := inc8 s.auxCarryMode (s.getOp x) s.flags
  { s with flags := r.2 }.setOp x r.1

/-- `setOp(ddd, dec8(getOp(ddd)))` (R195, R196). -/
def decOp (x : Sel) (s : State) : State :=
  let r := dec8 s.auxCarryMode (s.getOp x) s.flags
  { s with flags := r.2 }.setOp x r.1

/-- `t <- HL + v; HL <- t mod 65536; F.CY <- (t > 65535)` (R135, R199). -/
def addToHL (v : Word) (s : State) : State :=
  let t := s.hl.toNat + v.toNat
  (s.setHL (BitVec.ofNat 16 t)).setCarry (decide (t > 65535))

/-- DAA on A (R200). -/
def decimalAdjustA (s : State) : State :=
  let r := daa8 s.auxCarryMode s.a s.flags
  { s with a := r.1, flags := r.2 }

/-- 0x03 `INX B`: R197. -/
def execInxB (s : State) : Result :=
  .next (s.setRP .bc (s.getRP .bc + 1))

/-- 0x04 `INR B`: R193. -/
def execInrB (s : State) : Result :=
  .next (incOp .b s)

/-- 0x05 `DCR B`: R195. -/
def execDcrB (s : State) : Result :=
  .next (decOp .b s)

/-- 0x09 `DAD B`: R199. -/
def execDadB (s : State) : Result :=
  .next (addToHL (s.getRP .bc) s)

/-- 0x0B `DCX B`: R198. -/
def execDcxB (s : State) : Result :=
  .next (s.setRP .bc (s.getRP .bc - 1))

/-- 0x0C `INR C`: R193. -/
def execInrC (s : State) : Result :=
  .next (incOp .c s)

/-- 0x0D `DCR C`: R195. -/
def execDcrC (s : State) : Result :=
  .next (decOp .c s)

/-- 0x13 `INX D`: R197. -/
def execInxD (s : State) : Result :=
  .next (s.setRP .de (s.getRP .de + 1))

/-- 0x14 `INR D`: R193. -/
def execInrD (s : State) : Result :=
  .next (incOp .d s)

/-- 0x15 `DCR D`: R195. -/
def execDcrD (s : State) : Result :=
  .next (decOp .d s)

/-- 0x19 `DAD D`: R199. -/
def execDadD (s : State) : Result :=
  .next (addToHL (s.getRP .de) s)

/-- 0x1B `DCX D`: R198. -/
def execDcxD (s : State) : Result :=
  .next (s.setRP .de (s.getRP .de - 1))

/-- 0x1C `INR E`: R193. -/
def execInrE (s : State) : Result :=
  .next (incOp .e s)

/-- 0x1D `DCR E`: R195. -/
def execDcrE (s : State) : Result :=
  .next (decOp .e s)

/-- 0x23 `INX H`: R197. -/
def execInxH (s : State) : Result :=
  .next (s.setRP .hl (s.getRP .hl + 1))

/-- 0x24 `INR H`: R193. -/
def execInrH (s : State) : Result :=
  .next (incOp .h s)

/-- 0x25 `DCR H`: R195. -/
def execDcrH (s : State) : Result :=
  .next (decOp .h s)

/-- 0x27 `DAA`: R200. -/
def execDaa (s : State) : Result :=
  .next (decimalAdjustA s)

/-- 0x29 `DAD H`: R199. -/
def execDadH (s : State) : Result :=
  .next (addToHL (s.getRP .hl) s)

/-- 0x2B `DCX H`: R198. -/
def execDcxH (s : State) : Result :=
  .next (s.setRP .hl (s.getRP .hl - 1))

/-- 0x2C `INR L`: R193. -/
def execInrL (s : State) : Result :=
  .next (incOp .l s)

/-- 0x2D `DCR L`: R195. -/
def execDcrL (s : State) : Result :=
  .next (decOp .l s)

/-- 0x33 `INX SP`: R197. -/
def execInxSP (s : State) : Result :=
  .next (s.setRP .sp (s.getRP .sp + 1))

/-- 0x34 `INR M`: R194. -/
def execInrM (s : State) : Result :=
  .next (incOp .m s)

/-- 0x35 `DCR M`: R196. -/
def execDcrM (s : State) : Result :=
  .next (decOp .m s)

/-- 0x39 `DAD SP`: R199. -/
def execDadSP (s : State) : Result :=
  .next (addToHL (s.getRP .sp) s)

/-- 0x3B `DCX SP`: R198. -/
def execDcxSP (s : State) : Result :=
  .next (s.setRP .sp (s.getRP .sp - 1))

/-- 0x3C `INR A`: R193. -/
def execInrA (s : State) : Result :=
  .next (incOp .a s)

/-- 0x3D `DCR A`: R195. -/
def execDcrA (s : State) : Result :=
  .next (decOp .a s)

/-- 0x80 `ADD B`: R181. -/
def execAddB (s : State) : Result :=
  .next (addToA (s.getOp .b) false s)

/-- 0x81 `ADD C`: R181. -/
def execAddC (s : State) : Result :=
  .next (addToA (s.getOp .c) false s)

/-- 0x82 `ADD D`: R181. -/
def execAddD (s : State) : Result :=
  .next (addToA (s.getOp .d) false s)

/-- 0x83 `ADD E`: R181. -/
def execAddE (s : State) : Result :=
  .next (addToA (s.getOp .e) false s)

/-- 0x84 `ADD H`: R181. -/
def execAddH (s : State) : Result :=
  .next (addToA (s.getOp .h) false s)

/-- 0x85 `ADD L`: R181. -/
def execAddL (s : State) : Result :=
  .next (addToA (s.getOp .l) false s)

/-- 0x86 `ADD M`: R182. -/
def execAddM (s : State) : Result :=
  .next (addToA (s.getOp .m) false s)

/-- 0x87 `ADD A`: R181. -/
def execAddA (s : State) : Result :=
  .next (addToA (s.getOp .a) false s)

/-- 0x88 `ADC B`: R184. -/
def execAdcB (s : State) : Result :=
  .next (addToA (s.getOp .b) s.flags.cy s)

/-- 0x89 `ADC C`: R184. -/
def execAdcC (s : State) : Result :=
  .next (addToA (s.getOp .c) s.flags.cy s)

/-- 0x8A `ADC D`: R184. -/
def execAdcD (s : State) : Result :=
  .next (addToA (s.getOp .d) s.flags.cy s)

/-- 0x8B `ADC E`: R184. -/
def execAdcE (s : State) : Result :=
  .next (addToA (s.getOp .e) s.flags.cy s)

/-- 0x8C `ADC H`: R184. -/
def execAdcH (s : State) : Result :=
  .next (addToA (s.getOp .h) s.flags.cy s)

/-- 0x8D `ADC L`: R184. -/
def execAdcL (s : State) : Result :=
  .next (addToA (s.getOp .l) s.flags.cy s)

/-- 0x8E `ADC M`: R185. -/
def execAdcM (s : State) : Result :=
  .next (addToA (s.getOp .m) s.flags.cy s)

/-- 0x8F `ADC A`: R184. -/
def execAdcA (s : State) : Result :=
  .next (addToA (s.getOp .a) s.flags.cy s)

/-- 0x90 `SUB B`: R187. -/
def execSubB (s : State) : Result :=
  .next (subFromA (s.getOp .b) false s)

/-- 0x91 `SUB C`: R187. -/
def execSubC (s : State) : Result :=
  .next (subFromA (s.getOp .c) false s)

/-- 0x92 `SUB D`: R187. -/
def execSubD (s : State) : Result :=
  .next (subFromA (s.getOp .d) false s)

/-- 0x93 `SUB E`: R187. -/
def execSubE (s : State) : Result :=
  .next (subFromA (s.getOp .e) false s)

/-- 0x94 `SUB H`: R187. -/
def execSubH (s : State) : Result :=
  .next (subFromA (s.getOp .h) false s)

/-- 0x95 `SUB L`: R187. -/
def execSubL (s : State) : Result :=
  .next (subFromA (s.getOp .l) false s)

/-- 0x96 `SUB M`: R188. -/
def execSubM (s : State) : Result :=
  .next (subFromA (s.getOp .m) false s)

/-- 0x97 `SUB A`: R187. -/
def execSubA (s : State) : Result :=
  .next (subFromA (s.getOp .a) false s)

/-- 0x98 `SBB B`: R190. -/
def execSbbB (s : State) : Result :=
  .next (subFromA (s.getOp .b) s.flags.cy s)

/-- 0x99 `SBB C`: R190. -/
def execSbbC (s : State) : Result :=
  .next (subFromA (s.getOp .c) s.flags.cy s)

/-- 0x9A `SBB D`: R190. -/
def execSbbD (s : State) : Result :=
  .next (subFromA (s.getOp .d) s.flags.cy s)

/-- 0x9B `SBB E`: R190. -/
def execSbbE (s : State) : Result :=
  .next (subFromA (s.getOp .e) s.flags.cy s)

/-- 0x9C `SBB H`: R190. -/
def execSbbH (s : State) : Result :=
  .next (subFromA (s.getOp .h) s.flags.cy s)

/-- 0x9D `SBB L`: R190. -/
def execSbbL (s : State) : Result :=
  .next (subFromA (s.getOp .l) s.flags.cy s)

/-- 0x9E `SBB M`: R191. -/
def execSbbM (s : State) : Result :=
  .next (subFromA (s.getOp .m) s.flags.cy s)

/-- 0x9F `SBB A`: R190. -/
def execSbbA (s : State) : Result :=
  .next (subFromA (s.getOp .a) s.flags.cy s)

/-- 0xC6 `ADI d8`: R183. -/
def execAdi (d8 : Byte) (s : State) : Result :=
  .next (addToA d8 false s)

/-- 0xCE `ACI d8`: R186. -/
def execAci (d8 : Byte) (s : State) : Result :=
  .next (addToA d8 s.flags.cy s)

/-- 0xD6 `SUI d8`: R189. -/
def execSui (d8 : Byte) (s : State) : Result :=
  .next (subFromA d8 false s)

/-- 0xDE `SBI d8`: R192. -/
def execSbi (d8 : Byte) (s : State) : Result :=
  .next (subFromA d8 s.flags.cy s)

end Sys2Proof.Machine
end

