-- ==== Sys2Proof/Machine/Branch.lean ====
section
/-! DEFINITION. The branch instructions (44_branch.md). PC is the address of the next instruction
when a meaning runs, which is the return address a call pushes (R250). -/

namespace Sys2Proof.Machine

/-- `push16(PC); PC <- target` (R253, R257). -/
def State.call (s : State) (target : Word) : State := (s.push16 s.pc).jump target

/-- `PC <- pop16()` (R255). -/
def State.ret (s : State) : State := s.dropTop.jump s.topOfStack

/-- `if cond(ccc) == 1: PC <- imm16` (R252). -/
def jumpIf (ccc : Cond) (target : Word) (s : State) : State :=
  if condHolds ccc s.flags then s.jump target else s

/-- `if cond(ccc) == 1: push16(PC); PC <- imm16` (R254). -/
def callIf (ccc : Cond) (target : Word) (s : State) : State :=
  if condHolds ccc s.flags then s.call target else s

/-- `if cond(ccc) == 1: PC <- pop16()` (R256). -/
def retIf (ccc : Cond) (s : State) : State :=
  if condHolds ccc s.flags then s.ret else s

/-- 0xC0 `RNZ`: R256. -/
def execRnz (s : State) : Result :=
  .next (retIf .nz s)

/-- 0xC2 `JNZ a16`: R252. -/
def execJnz (a16 : Word) (s : State) : Result :=
  .next (jumpIf .nz a16 s)

/-- 0xC3 `JMP a16`: R251. -/
def execJmp (a16 : Word) (s : State) : Result :=
  .next (s.jump a16)

/-- 0xC4 `CNZ a16`: R254. -/
def execCnz (a16 : Word) (s : State) : Result :=
  .next (callIf .nz a16 s)

/-- 0xC7 `RST 0`: R257. -/
def execRst0 (s : State) : Result :=
  .next (s.call 0#16)

/-- 0xC8 `RZ`: R256. -/
def execRz (s : State) : Result :=
  .next (retIf .z s)

/-- 0xC9 `RET`: R255. -/
def execRet (s : State) : Result :=
  .next s.ret

/-- 0xCA `JZ a16`: R252. -/
def execJz (a16 : Word) (s : State) : Result :=
  .next (jumpIf .z a16 s)

/-- 0xCB `*JMP a16`: R259. -/
def execJmpCB (a16 : Word) (s : State) : Result :=
  .next (s.jump a16)

/-- 0xCC `CZ a16`: R254. -/
def execCz (a16 : Word) (s : State) : Result :=
  .next (callIf .z a16 s)

/-- 0xCD `CALL a16`: R253. -/
def execCall (a16 : Word) (s : State) : Result :=
  .next (s.call a16)

/-- 0xCF `RST 1`: R257. -/
def execRst1 (s : State) : Result :=
  .next (s.call 8#16)

/-- 0xD0 `RNC`: R256. -/
def execRnc (s : State) : Result :=
  .next (retIf .nc s)

/-- 0xD2 `JNC a16`: R252. -/
def execJnc (a16 : Word) (s : State) : Result :=
  .next (jumpIf .nc a16 s)

/-- 0xD4 `CNC a16`: R254. -/
def execCnc (a16 : Word) (s : State) : Result :=
  .next (callIf .nc a16 s)

/-- 0xD7 `RST 2`: R257. -/
def execRst2 (s : State) : Result :=
  .next (s.call 16#16)

/-- 0xD8 `RC`: R256. -/
def execRc (s : State) : Result :=
  .next (retIf .c s)

/-- 0xD9 `*RET`: R260. -/
def execRetD9 (s : State) : Result :=
  .next s.ret

/-- 0xDA `JC a16`: R252. -/
def execJc (a16 : Word) (s : State) : Result :=
  .next (jumpIf .c a16 s)

/-- 0xDC `CC a16`: R254. -/
def execCc (a16 : Word) (s : State) : Result :=
  .next (callIf .c a16 s)

/-- 0xDD `*CALL a16`: R261. -/
def execCallDD (a16 : Word) (s : State) : Result :=
  .next (s.call a16)

/-- 0xDF `RST 3`: R257. -/
def execRst3 (s : State) : Result :=
  .next (s.call 24#16)

/-- 0xE0 `RPO`: R256. -/
def execRpo (s : State) : Result :=
  .next (retIf .po s)

/-- 0xE2 `JPO a16`: R252. -/
def execJpo (a16 : Word) (s : State) : Result :=
  .next (jumpIf .po a16 s)

/-- 0xE4 `CPO a16`: R254. -/
def execCpo (a16 : Word) (s : State) : Result :=
  .next (callIf .po a16 s)

/-- 0xE7 `RST 4`: R257. -/
def execRst4 (s : State) : Result :=
  .next (s.call 32#16)

/-- 0xE8 `RPE`: R256. -/
def execRpe (s : State) : Result :=
  .next (retIf .pe s)

/-- 0xE9 `PCHL`: R258. -/
def execPchl (s : State) : Result :=
  .next (s.jump s.hl)

/-- 0xEA `JPE a16`: R252. -/
def execJpe (a16 : Word) (s : State) : Result :=
  .next (jumpIf .pe a16 s)

/-- 0xEC `CPE a16`: R254. -/
def execCpe (a16 : Word) (s : State) : Result :=
  .next (callIf .pe a16 s)

/-- 0xED `*CALL a16`: R261. -/
def execCallED (a16 : Word) (s : State) : Result :=
  .next (s.call a16)

/-- 0xEF `RST 5`: R257. -/
def execRst5 (s : State) : Result :=
  .next (s.call 40#16)

/-- 0xF0 `RP`: R256. -/
def execRp (s : State) : Result :=
  .next (retIf .p s)

/-- 0xF2 `JP a16`: R252. -/
def execJp (a16 : Word) (s : State) : Result :=
  .next (jumpIf .p a16 s)

/-- 0xF4 `CP a16`: R254. -/
def execCp (a16 : Word) (s : State) : Result :=
  .next (callIf .p a16 s)

/-- 0xF7 `RST 6`: R257. -/
def execRst6 (s : State) : Result :=
  .next (s.call 48#16)

/-- 0xF8 `RM`: R256. -/
def execRm (s : State) : Result :=
  .next (retIf .m s)

/-- 0xFA `JM a16`: R252. -/
def execJm (a16 : Word) (s : State) : Result :=
  .next (jumpIf .m a16 s)

/-- 0xFC `CM a16`: R254. -/
def execCm (a16 : Word) (s : State) : Result :=
  .next (callIf .m a16 s)

/-- 0xFD `*CALL a16`: R261. -/
def execCallFD (a16 : Word) (s : State) : Result :=
  .next (s.call a16)

/-- 0xFF `RST 7`: R257. -/
def execRst7 (s : State) : Result :=
  .next (s.call 56#16)

end Sys2Proof.Machine
end

