-- ==== Sys2Proof/Machine/DataTransfer.lean ====
section
/-! DEFINITION. The data-transfer instructions (41_data_transfer.md). PC already addresses the next
instruction when a meaning runs (30_encoding.md R100). No instruction of the family writes a flag or
INTE (R150). -/

namespace Sys2Proof.Machine

/-- MOV: `setOp(ddd, getOp(sss))`; the source is read before the destination is written (R129). -/
def moveOp (dst src : Sel) (s : State) : State := s.setOp dst (s.getOp src)

/-- `x[A] <- MemRead(addr, 1)`. -/
def loadA (addr : Word) (s : State) : State := { s with a := s.readByte addr }

/-- `MemWrite(addr, 1, x[A])`. -/
def storeA (addr : Word) (s : State) : State := s.writeByte addr s.a

/-- `t <- HL; HL <- DE; DE <- t` (R163). -/
def exchangeHLDE (s : State) : State := (s.setHL s.de).setDE s.hl

/-- 0x01 `LXI B,d16`: R156. -/
def execLxiB (d16 : Word) (s : State) : Result :=
  .next (s.setRP .bc d16)

/-- 0x02 `STAX B`: R162. -/
def execStaxB (s : State) : Result :=
  .next (storeA (s.getRP .bc) s)

/-- 0x06 `MVI B,d8`: R154. -/
def execMviB (d8 : Byte) (s : State) : Result :=
  .next (s.setOp .b d8)

/-- 0x0A `LDAX B`: R161. -/
def execLdaxB (s : State) : Result :=
  .next (loadA (s.getRP .bc) s)

/-- 0x0E `MVI C,d8`: R154. -/
def execMviC (d8 : Byte) (s : State) : Result :=
  .next (s.setOp .c d8)

/-- 0x11 `LXI D,d16`: R156. -/
def execLxiD (d16 : Word) (s : State) : Result :=
  .next (s.setRP .de d16)

/-- 0x12 `STAX D`: R162. -/
def execStaxD (s : State) : Result :=
  .next (storeA (s.getRP .de) s)

/-- 0x16 `MVI D,d8`: R154. -/
def execMviD (d8 : Byte) (s : State) : Result :=
  .next (s.setOp .d d8)

/-- 0x1A `LDAX D`: R161. -/
def execLdaxD (s : State) : Result :=
  .next (loadA (s.getRP .de) s)

/-- 0x1E `MVI E,d8`: R154. -/
def execMviE (d8 : Byte) (s : State) : Result :=
  .next (s.setOp .e d8)

/-- 0x21 `LXI H,d16`: R156. -/
def execLxiH (d16 : Word) (s : State) : Result :=
  .next (s.setRP .hl d16)

/-- 0x22 `SHLD a16`: R160. -/
def execShld (a16 : Word) (s : State) : Result :=
  .next (s.writeWord a16 s.hl)

/-- 0x26 `MVI H,d8`: R154. -/
def execMviH (d8 : Byte) (s : State) : Result :=
  .next (s.setOp .h d8)

/-- 0x2A `LHLD a16`: R159. -/
def execLhld (a16 : Word) (s : State) : Result :=
  .next (s.setHL (s.readWord a16))

/-- 0x2E `MVI L,d8`: R154. -/
def execMviL (d8 : Byte) (s : State) : Result :=
  .next (s.setOp .l d8)

/-- 0x31 `LXI SP,d16`: R156. -/
def execLxiSP (d16 : Word) (s : State) : Result :=
  .next (s.setRP .sp d16)

/-- 0x32 `STA a16`: R158. -/
def execSta (a16 : Word) (s : State) : Result :=
  .next (storeA a16 s)

/-- 0x36 `MVI M,d8`: R155. -/
def execMviM (d8 : Byte) (s : State) : Result :=
  .next (s.setOp .m d8)

/-- 0x3A `LDA a16`: R157. -/
def execLda (a16 : Word) (s : State) : Result :=
  .next (loadA a16 s)

/-- 0x3E `MVI A,d8`: R154. -/
def execMviA (d8 : Byte) (s : State) : Result :=
  .next (s.setOp .a d8)

/-- 0x40 `MOV B,B`: R151. -/
def execMovBB (s : State) : Result :=
  .next (moveOp .b .b s)

/-- 0x41 `MOV B,C`: R151. -/
def execMovBC (s : State) : Result :=
  .next (moveOp .b .c s)

/-- 0x42 `MOV B,D`: R151. -/
def execMovBD (s : State) : Result :=
  .next (moveOp .b .d s)

/-- 0x43 `MOV B,E`: R151. -/
def execMovBE (s : State) : Result :=
  .next (moveOp .b .e s)

/-- 0x44 `MOV B,H`: R151. -/
def execMovBH (s : State) : Result :=
  .next (moveOp .b .h s)

/-- 0x45 `MOV B,L`: R151. -/
def execMovBL (s : State) : Result :=
  .next (moveOp .b .l s)

/-- 0x46 `MOV B,M`: R152. -/
def execMovBM (s : State) : Result :=
  .next (moveOp .b .m s)

/-- 0x47 `MOV B,A`: R151. -/
def execMovBA (s : State) : Result :=
  .next (moveOp .b .a s)

/-- 0x48 `MOV C,B`: R151. -/
def execMovCB (s : State) : Result :=
  .next (moveOp .c .b s)

/-- 0x49 `MOV C,C`: R151. -/
def execMovCC (s : State) : Result :=
  .next (moveOp .c .c s)

/-- 0x4A `MOV C,D`: R151. -/
def execMovCD (s : State) : Result :=
  .next (moveOp .c .d s)

/-- 0x4B `MOV C,E`: R151. -/
def execMovCE (s : State) : Result :=
  .next (moveOp .c .e s)

/-- 0x4C `MOV C,H`: R151. -/
def execMovCH (s : State) : Result :=
  .next (moveOp .c .h s)

/-- 0x4D `MOV C,L`: R151. -/
def execMovCL (s : State) : Result :=
  .next (moveOp .c .l s)

/-- 0x4E `MOV C,M`: R152. -/
def execMovCM (s : State) : Result :=
  .next (moveOp .c .m s)

/-- 0x4F `MOV C,A`: R151. -/
def execMovCA (s : State) : Result :=
  .next (moveOp .c .a s)

/-- 0x50 `MOV D,B`: R151. -/
def execMovDB (s : State) : Result :=
  .next (moveOp .d .b s)

/-- 0x51 `MOV D,C`: R151. -/
def execMovDC (s : State) : Result :=
  .next (moveOp .d .c s)

/-- 0x52 `MOV D,D`: R151. -/
def execMovDD (s : State) : Result :=
  .next (moveOp .d .d s)

/-- 0x53 `MOV D,E`: R151. -/
def execMovDE (s : State) : Result :=
  .next (moveOp .d .e s)

/-- 0x54 `MOV D,H`: R151. -/
def execMovDH (s : State) : Result :=
  .next (moveOp .d .h s)

/-- 0x55 `MOV D,L`: R151. -/
def execMovDL (s : State) : Result :=
  .next (moveOp .d .l s)

/-- 0x56 `MOV D,M`: R152. -/
def execMovDM (s : State) : Result :=
  .next (moveOp .d .m s)

/-- 0x57 `MOV D,A`: R151. -/
def execMovDA (s : State) : Result :=
  .next (moveOp .d .a s)

/-- 0x58 `MOV E,B`: R151. -/
def execMovEB (s : State) : Result :=
  .next (moveOp .e .b s)

/-- 0x59 `MOV E,C`: R151. -/
def execMovEC (s : State) : Result :=
  .next (moveOp .e .c s)

/-- 0x5A `MOV E,D`: R151. -/
def execMovED (s : State) : Result :=
  .next (moveOp .e .d s)

/-- 0x5B `MOV E,E`: R151. -/
def execMovEE (s : State) : Result :=
  .next (moveOp .e .e s)

/-- 0x5C `MOV E,H`: R151. -/
def execMovEH (s : State) : Result :=
  .next (moveOp .e .h s)

/-- 0x5D `MOV E,L`: R151. -/
def execMovEL (s : State) : Result :=
  .next (moveOp .e .l s)

/-- 0x5E `MOV E,M`: R152. -/
def execMovEM (s : State) : Result :=
  .next (moveOp .e .m s)

/-- 0x5F `MOV E,A`: R151. -/
def execMovEA (s : State) : Result :=
  .next (moveOp .e .a s)

/-- 0x60 `MOV H,B`: R151. -/
def execMovHB (s : State) : Result :=
  .next (moveOp .h .b s)

/-- 0x61 `MOV H,C`: R151. -/
def execMovHC (s : State) : Result :=
  .next (moveOp .h .c s)

/-- 0x62 `MOV H,D`: R151. -/
def execMovHD (s : State) : Result :=
  .next (moveOp .h .d s)

/-- 0x63 `MOV H,E`: R151. -/
def execMovHE (s : State) : Result :=
  .next (moveOp .h .e s)

/-- 0x64 `MOV H,H`: R151. -/
def execMovHH (s : State) : Result :=
  .next (moveOp .h .h s)

/-- 0x65 `MOV H,L`: R151. -/
def execMovHL (s : State) : Result :=
  .next (moveOp .h .l s)

/-- 0x66 `MOV H,M`: R152. -/
def execMovHM (s : State) : Result :=
  .next (moveOp .h .m s)

/-- 0x67 `MOV H,A`: R151. -/
def execMovHA (s : State) : Result :=
  .next (moveOp .h .a s)

/-- 0x68 `MOV L,B`: R151. -/
def execMovLB (s : State) : Result :=
  .next (moveOp .l .b s)

/-- 0x69 `MOV L,C`: R151. -/
def execMovLC (s : State) : Result :=
  .next (moveOp .l .c s)

/-- 0x6A `MOV L,D`: R151. -/
def execMovLD (s : State) : Result :=
  .next (moveOp .l .d s)

/-- 0x6B `MOV L,E`: R151. -/
def execMovLE (s : State) : Result :=
  .next (moveOp .l .e s)

/-- 0x6C `MOV L,H`: R151. -/
def execMovLH (s : State) : Result :=
  .next (moveOp .l .h s)

/-- 0x6D `MOV L,L`: R151. -/
def execMovLL (s : State) : Result :=
  .next (moveOp .l .l s)

/-- 0x6E `MOV L,M`: R152. -/
def execMovLM (s : State) : Result :=
  .next (moveOp .l .m s)

/-- 0x6F `MOV L,A`: R151. -/
def execMovLA (s : State) : Result :=
  .next (moveOp .l .a s)

/-- 0x70 `MOV M,B`: R153. -/
def execMovMB (s : State) : Result :=
  .next (moveOp .m .b s)

/-- 0x71 `MOV M,C`: R153. -/
def execMovMC (s : State) : Result :=
  .next (moveOp .m .c s)

/-- 0x72 `MOV M,D`: R153. -/
def execMovMD (s : State) : Result :=
  .next (moveOp .m .d s)

/-- 0x73 `MOV M,E`: R153. -/
def execMovME (s : State) : Result :=
  .next (moveOp .m .e s)

/-- 0x74 `MOV M,H`: R153. -/
def execMovMH (s : State) : Result :=
  .next (moveOp .m .h s)

/-- 0x75 `MOV M,L`: R153. -/
def execMovML (s : State) : Result :=
  .next (moveOp .m .l s)

/-- 0x77 `MOV M,A`: R153. -/
def execMovMA (s : State) : Result :=
  .next (moveOp .m .a s)

/-- 0x78 `MOV A,B`: R151. -/
def execMovAB (s : State) : Result :=
  .next (moveOp .a .b s)

/-- 0x79 `MOV A,C`: R151. -/
def execMovAC (s : State) : Result :=
  .next (moveOp .a .c s)

/-- 0x7A `MOV A,D`: R151. -/
def execMovAD (s : State) : Result :=
  .next (moveOp .a .d s)

/-- 0x7B `MOV A,E`: R151. -/
def execMovAE (s : State) : Result :=
  .next (moveOp .a .e s)

/-- 0x7C `MOV A,H`: R151. -/
def execMovAH (s : State) : Result :=
  .next (moveOp .a .h s)

/-- 0x7D `MOV A,L`: R151. -/
def execMovAL (s : State) : Result :=
  .next (moveOp .a .l s)

/-- 0x7E `MOV A,M`: R152. -/
def execMovAM (s : State) : Result :=
  .next (moveOp .a .m s)

/-- 0x7F `MOV A,A`: R151. -/
def execMovAA (s : State) : Result :=
  .next (moveOp .a .a s)

/-- 0xEB `XCHG`: R163. -/
def execXchg (s : State) : Result :=
  .next (exchangeHLDE s)

end Sys2Proof.Machine
end

