-- ==== Sys2Proof/Machine/Logical.lean ====
section
/-! DEFINITION. The logical, compare, rotate and flag instructions (43_logical.md). -/

namespace Sys2Proof.Machine

/-- `x[A] <- logic8(r)` for a bitwise result `r` (R220). -/
def logicIntoA (r : Byte) (s : State) : State := { s with a := r, flags := logic8 r s.flags }

/-- ANA, ANI (R221 to R223). -/
def andIntoA (v : Byte) (s : State) : State := logicIntoA (s.a &&& v) s

/-- XRA, XRI (R224 to R226). -/
def xorIntoA (v : Byte) (s : State) : State := logicIntoA (s.a ^^^ v) s

/-- ORA, ORI (R227 to R229). -/
def orIntoA (v : Byte) (s : State) : State := logicIntoA (s.a ||| v) s

/-- CMP, CPI: the flags of a subtraction, A kept (R230 to R232). -/
def compareA (v : Byte) (s : State) : State :=
  { s with flags := (sub8 s.auxCarryMode s.a v false s.flags).2 }

/-- RLC: bit 7 to bit 0 and CY (R233). -/
def rotateLeft (s : State) : State :=
  let c := s.a.getLsbD 7
  { s with a := s.a.extractLsb' 0 7 ++ BitVec.ofBool c }.setCarry c

/-- RRC: bit 0 to bit 7 and CY (R234). -/
def rotateRight (s : State) : State :=
  let c := s.a.getLsbD 0
  { s with a := BitVec.ofBool c ++ s.a.extractLsb' 1 7 }.setCarry c

/-- RAL: bit 7 to CY, CY to bit 0 (R235). -/
def rotateLeftThroughCarry (s : State) : State :=
  let c := s.a.getLsbD 7
  { s with a := s.a.extractLsb' 0 7 ++ BitVec.ofBool s.flags.cy }.setCarry c

/-- RAR: bit 0 to CY, CY to bit 7 (R236). -/
def rotateRightThroughCarry (s : State) : State :=
  let c := s.a.getLsbD 0
  { s with a := BitVec.ofBool s.flags.cy ++ s.a.extractLsb' 1 7 }.setCarry c

/-- 0x07 `RLC`: R233. -/
def execRlc (s : State) : Result :=
  .next (rotateLeft s)

/-- 0x0F `RRC`: R234. -/
def execRrc (s : State) : Result :=
  .next (rotateRight s)

/-- 0x17 `RAL`: R235. -/
def execRal (s : State) : Result :=
  .next (rotateLeftThroughCarry s)

/-- 0x1F `RAR`: R236. -/
def execRar (s : State) : Result :=
  .next (rotateRightThroughCarry s)

/-- 0x2F `CMA`: R237. -/
def execCma (s : State) : Result :=
  .next { s with a := s.a ^^^ 0xFF#8 }

/-- 0x37 `STC`: R239. -/
def execStc (s : State) : Result :=
  .next (s.setCarry true)

/-- 0x3F `CMC`: R238. -/
def execCmc (s : State) : Result :=
  .next (s.setCarry (!s.flags.cy))

/-- 0xA0 `ANA B`: R221. -/
def execAnaB (s : State) : Result :=
  .next (andIntoA (s.getOp .b) s)

/-- 0xA1 `ANA C`: R221. -/
def execAnaC (s : State) : Result :=
  .next (andIntoA (s.getOp .c) s)

/-- 0xA2 `ANA D`: R221. -/
def execAnaD (s : State) : Result :=
  .next (andIntoA (s.getOp .d) s)

/-- 0xA3 `ANA E`: R221. -/
def execAnaE (s : State) : Result :=
  .next (andIntoA (s.getOp .e) s)

/-- 0xA4 `ANA H`: R221. -/
def execAnaH (s : State) : Result :=
  .next (andIntoA (s.getOp .h) s)

/-- 0xA5 `ANA L`: R221. -/
def execAnaL (s : State) : Result :=
  .next (andIntoA (s.getOp .l) s)

/-- 0xA6 `ANA M`: R222. -/
def execAnaM (s : State) : Result :=
  .next (andIntoA (s.getOp .m) s)

/-- 0xA7 `ANA A`: R221. -/
def execAnaA (s : State) : Result :=
  .next (andIntoA (s.getOp .a) s)

/-- 0xA8 `XRA B`: R224. -/
def execXraB (s : State) : Result :=
  .next (xorIntoA (s.getOp .b) s)

/-- 0xA9 `XRA C`: R224. -/
def execXraC (s : State) : Result :=
  .next (xorIntoA (s.getOp .c) s)

/-- 0xAA `XRA D`: R224. -/
def execXraD (s : State) : Result :=
  .next (xorIntoA (s.getOp .d) s)

/-- 0xAB `XRA E`: R224. -/
def execXraE (s : State) : Result :=
  .next (xorIntoA (s.getOp .e) s)

/-- 0xAC `XRA H`: R224. -/
def execXraH (s : State) : Result :=
  .next (xorIntoA (s.getOp .h) s)

/-- 0xAD `XRA L`: R224. -/
def execXraL (s : State) : Result :=
  .next (xorIntoA (s.getOp .l) s)

/-- 0xAE `XRA M`: R225. -/
def execXraM (s : State) : Result :=
  .next (xorIntoA (s.getOp .m) s)

/-- 0xAF `XRA A`: R224. -/
def execXraA (s : State) : Result :=
  .next (xorIntoA (s.getOp .a) s)

/-- 0xB0 `ORA B`: R227. -/
def execOraB (s : State) : Result :=
  .next (orIntoA (s.getOp .b) s)

/-- 0xB1 `ORA C`: R227. -/
def execOraC (s : State) : Result :=
  .next (orIntoA (s.getOp .c) s)

/-- 0xB2 `ORA D`: R227. -/
def execOraD (s : State) : Result :=
  .next (orIntoA (s.getOp .d) s)

/-- 0xB3 `ORA E`: R227. -/
def execOraE (s : State) : Result :=
  .next (orIntoA (s.getOp .e) s)

/-- 0xB4 `ORA H`: R227. -/
def execOraH (s : State) : Result :=
  .next (orIntoA (s.getOp .h) s)

/-- 0xB5 `ORA L`: R227. -/
def execOraL (s : State) : Result :=
  .next (orIntoA (s.getOp .l) s)

/-- 0xB6 `ORA M`: R228. -/
def execOraM (s : State) : Result :=
  .next (orIntoA (s.getOp .m) s)

/-- 0xB7 `ORA A`: R227. -/
def execOraA (s : State) : Result :=
  .next (orIntoA (s.getOp .a) s)

/-- 0xB8 `CMP B`: R230. -/
def execCmpB (s : State) : Result :=
  .next (compareA (s.getOp .b) s)

/-- 0xB9 `CMP C`: R230. -/
def execCmpC (s : State) : Result :=
  .next (compareA (s.getOp .c) s)

/-- 0xBA `CMP D`: R230. -/
def execCmpD (s : State) : Result :=
  .next (compareA (s.getOp .d) s)

/-- 0xBB `CMP E`: R230. -/
def execCmpE (s : State) : Result :=
  .next (compareA (s.getOp .e) s)

/-- 0xBC `CMP H`: R230. -/
def execCmpH (s : State) : Result :=
  .next (compareA (s.getOp .h) s)

/-- 0xBD `CMP L`: R230. -/
def execCmpL (s : State) : Result :=
  .next (compareA (s.getOp .l) s)

/-- 0xBE `CMP M`: R231. -/
def execCmpM (s : State) : Result :=
  .next (compareA (s.getOp .m) s)

/-- 0xBF `CMP A`: R230. -/
def execCmpA (s : State) : Result :=
  .next (compareA (s.getOp .a) s)

/-- 0xE6 `ANI d8`: R223. -/
def execAni (d8 : Byte) (s : State) : Result :=
  .next (andIntoA d8 s)

/-- 0xEE `XRI d8`: R226. -/
def execXri (d8 : Byte) (s : State) : Result :=
  .next (xorIntoA d8 s)

/-- 0xF6 `ORI d8`: R229. -/
def execOri (d8 : Byte) (s : State) : Result :=
  .next (orIntoA d8 s)

/-- 0xFE `CPI d8`: R232. -/
def execCpi (d8 : Byte) (s : State) : Result :=
  .next (compareA d8 s)

end Sys2Proof.Machine
end

