-- ==== Sys2Proof/Machine/StackIoControl.lean ====
section
/-! DEFINITION. The stack, I/O and control instructions (45_stack_io_control.md). -/

namespace Sys2Proof.Machine

/-- `setRPpsw(rr, pop16())` (R283, R284). -/
def popInto (p : StackPair) (s : State) : State := s.dropTop.setRPpsw p s.topOfStack

/-- XTHL: HL and the word at the top of the stack change places; both bytes are read before either
is written (R285). -/
def exchangeTopHL (s : State) : State := (s.writeWord s.sp s.hl).setHL s.topOfStack

/-- `emit In(port); x[A] <- InputDraw(port)` (R287). Each IN makes a draw of its own. -/
def inputToA (port : Byte) (s : State) : State :=
  { s.emit (.input port) with a := Config.inputDraw s.draws port, draws := s.draws + 1 }

/-- 0x00 `NOP`: R292. -/
def execNop (s : State) : Result :=
  .next s

/-- 0x08 `*NOP`: R293. -/
def execNop08 (s : State) : Result :=
  .next s

/-- 0x10 `*NOP`: R293. -/
def execNop10 (s : State) : Result :=
  .next s

/-- 0x18 `*NOP`: R293. -/
def execNop18 (s : State) : Result :=
  .next s

/-- 0x20 `*NOP`: R293. -/
def execNop20 (s : State) : Result :=
  .next s

/-- 0x28 `*NOP`: R293. -/
def execNop28 (s : State) : Result :=
  .next s

/-- 0x30 `*NOP`: R293. -/
def execNop30 (s : State) : Result :=
  .next s

/-- 0x38 `*NOP`: R293. -/
def execNop38 (s : State) : Result :=
  .next s

/-- 0x76 `HLT`: R291. -/
def execHlt (s : State) : Result :=
  .next (s.emit .halt)

/-- 0xC1 `POP B`: R283. -/
def execPopB (s : State) : Result :=
  .next (popInto .bc s)

/-- 0xC5 `PUSH B`: R281. -/
def execPushB (s : State) : Result :=
  .next (s.push16 (s.getRPpsw .bc))

/-- 0xD1 `POP D`: R283. -/
def execPopD (s : State) : Result :=
  .next (popInto .de s)

/-- 0xD3 `OUT port`: R288. -/
def execOutPort (port : Byte) (s : State) : Result :=
  .next (s.emit (.out port s.a))

/-- 0xD5 `PUSH D`: R281. -/
def execPushD (s : State) : Result :=
  .next (s.push16 (s.getRPpsw .de))

/-- 0xDB `IN port`: R287. -/
def execInPort (port : Byte) (s : State) : Result :=
  .next (inputToA port s)

/-- 0xE1 `POP H`: R283. -/
def execPopH (s : State) : Result :=
  .next (popInto .hl s)

/-- 0xE3 `XTHL`: R285. -/
def execXthl (s : State) : Result :=
  .next (exchangeTopHL s)

/-- 0xE5 `PUSH H`: R281. -/
def execPushH (s : State) : Result :=
  .next (s.push16 (s.getRPpsw .hl))

/-- 0xF1 `POP PSW`: R284. -/
def execPopPSW (s : State) : Result :=
  .next (popInto .psw s)

/-- 0xF3 `DI`: R290. -/
def execDi (s : State) : Result :=
  .next { s with inte := false }

/-- 0xF5 `PUSH PSW`: R282. -/
def execPushPSW (s : State) : Result :=
  .next (s.push16 (s.getRPpsw .psw))

/-- 0xF9 `SPHL`: R286. -/
def execSphl (s : State) : Result :=
  .next { s with sp := s.hl }

/-- 0xFB `EI`: R289. -/
def execEi (s : State) : Result :=
  .next { s with inte := true }

end Sys2Proof.Machine
end

