-- ==== Sys2Proof/Machine/Step.lean ====
section
/-! DEFINITION. One step of the core (30_encoding.md R100). -/

namespace Sys2Proof.Machine

/-- Fetch the instruction at PC, advance PC past it, run it. The fault is found at decode, before
PC moves (60_exceptions.md R312, R313); the decoder is total, so no step raises it (R311). -/
def step (s : State) : Host.Outcome State Fault Refusal :=
  match decode s.fetchBytes with
  | .ok (i, _) => exec i (s.advancePc (opcodeLength (s.readByte s.pc)))
  | .error _ => .fault (.unimplementedOpcode s.pc (s.readByte s.pc))

/-- The state with an instruction of spec/opcode_table.json stored at PC, as many bytes as it has;
it stands for the host's load before the step (20_memory.md R68). -/
def State.withFetchWord (s : State) (nbits w : Nat) : State :=
  match tableWordBytes nbits w with
  | [op, b2, b3] =>
    match opcodeLength op with
    | 1 => s.writeByte s.pc op
    | 2 => (s.writeByte s.pc op).writeByte (s.pc + 1) b2
    | _ => ((s.writeByte s.pc op).writeByte (s.pc + 1) b2).writeByte (s.pc + 2) b3
  | _ => s

end Sys2Proof.Machine
end

