-- ==== Sys2Proof/Machine/HostInterface.lean ====
section
/-! DEFINITION. What the host may do to the state between steps (60_exceptions.md R328): load bytes,
edit any register, flag or byte of memory, fix AUX_CARRY_MODE, inspect. -/

namespace Sys2Proof.Machine

/-- What state inspection gives: "all registers, flags, SP, and PC" (20_memory.md R69). It is also
what the cross-validation oracle compares after each step (60_exceptions.md R326). -/
structure Inspection where
  a : Byte
  b : Byte
  c : Byte
  d : Byte
  e : Byte
  h : Byte
  l : Byte
  flags : Flags
  sp : Word
  pc : Word
  deriving DecidableEq, Repr

/-- State inspection (R69). -/
def State.inspect (s : State) : Inspection where
  a := s.a
  b := s.b
  c := s.c
  d := s.d
  e := s.e
  h := s.h
  l := s.l
  flags := s.flags
  sp := s.sp
  pc := s.pc

/-- Inspection of memory, one byte of it (R328 "and memory"). -/
def State.inspectByte (s : State) (a : Word) : Byte := s.readByte a

/-- Program loading (20_memory.md R68): the bytes at `offset` upward. A load that would pass the end
of memory is refused and writes nothing. -/
def State.hostLoad (s : State) (offset : Nat) (bytes : List Byte) : Option State :=
  if offset + bytes.length ≤ 65536 then some { s with mem := writeBytesAt s.mem offset bytes }
  else none

/-- One edit of the host between two steps: a new value for one element of the CPU State of R20
(60_exceptions.md R328 "new values of registers or memory", "any state"; 20_memory.md R69). -/
inductive HostEdit where
  | reg (r : Reg) (v : Byte)
  | sp (v : Word)
  | pc (v : Word)
  | flags (f : Flags)
  | inte (v : Bool)
  | memory (a : Word) (v : Byte)
  deriving DecidableEq, Repr

/-- What an edit does: it writes its element and nothing else (R328). -/
def State.hostEdit (s : State) : HostEdit → State
  | .reg r v => s.setReg r v
  | .sp v => { s with sp := v }
  | .pc v => { s with pc := v }
  | .flags f => { s with flags := f }
  | .inte v => { s with inte := v }
  | .memory a v => s.writeByte a v

/-- The edits the host makes between two steps, in their order (R328, R345). -/
def State.hostEdits (s : State) (edits : List HostEdit) : State := edits.foldl State.hostEdit s

/-- The host's edit of the entry point (70_reset_and_hazards.md R342, R344). -/
def State.hostSetPc (s : State) (entry : Word) : State := s.hostEdit (.pc entry)

/-- The host fixes AUX_CARRY_MODE before the first step (70_reset_and_hazards.md R344). -/
def State.hostSetAuxCarryMode (s : State) (mode : AuxCarryMode) : State :=
  { s with auxCarryMode := mode }

/-- The events of the one step that led from `s` to `t` (60_exceptions.md R317, R328). -/
def eventsOfStep (s t : State) : List Event := t.events.drop s.events.length

end Sys2Proof.Machine
end

