-- ==== Sys2Proof/Machine/HostRun.lean ====
section
/-! DEFINITION. The end of a run, chosen by the host (70_reset_and_hazards.md R345, R353). -/

namespace Sys2Proof.Machine

/-- Where a run stands: ended as the host chose, still running, or failed (R353: a run that faults
has not ended normally). -/
inductive RunOutcome where
  | ended (s : State)
  | running (s : State)
  | failed (r : Fault)
  | refused (r : Refusal)
  deriving DecidableEq, Repr

/-- A run watched for at most `k` steps, under the host's END_OF_RUN (R353): `steps n` ends after n
steps, `atHalt` at the first step that emits Halt, `never` does not end. Before each step the host
makes the next list of its edits, which take effect at that step; after the last list, none (R345,
60_exceptions.md R328). -/
def hostRun : Nat → EndOfRun → List (List HostEdit) → State → RunOutcome
  | 0, e, _, s => if e = .steps 0 then .ended s else .running s
  | k + 1, e, edits, s =>
    if e = .steps 0 then .ended s
    else
      let s' := s.hostEdits (edits.headD [])
      match step s' with
      | .fault r => .failed r
      | .refused r => .refused r
      | .next t =>
        match e with
        | .steps n => hostRun k (.steps (n - 1)) edits.tail t
        | .atHalt => if eventsOfStep s' t = [.halt] then .ended t else hostRun k .atHalt edits.tail t
        | .never => hostRun k .never edits.tail t

end Sys2Proof.Machine
end

