-- ==== Sys2Proof/Safety.lean ====
section
/-! DEFINITION. The terms the claims use, written from the spec's tables and not from the meanings:
the fields of the opcode byte (30_encoding.md R82 to R90), what each instruction may write (R26, R30,
R57), and the invariant of a state. -/

namespace Sys2Proof.Machine

/-! The opcode byte and its fields. -/

/-- The opcode byte agrees with `val` in the bits of `mask`: `00rr0001` is mask 0xCF, value 0x01. -/
def fits (i : Instr) (mask val : Byte) : Bool := i.opcode &&& mask == val

/-- op[5:3]: ddd, ooo, ccc or nnn (R82). -/
def field53 (i : Instr) : BitVec 3 := i.opcode.extractLsb' 3 3

/-- op[2:0]: sss (R82). -/
def field20 (i : Instr) : BitVec 3 := i.opcode.extractLsb' 0 3

/-- op[5:4]: rr (R82). -/
def field54 (i : Instr) : BitVec 2 := i.opcode.extractLsb' 4 2

/-- The table of R85: 0 to 7 are B, C, D, E, H, L, M, A. -/
def selOfField (x : BitVec 3) : Sel :=
  match x.toNat with
  | 0 => .b
  | 1 => .c
  | 2 => .d
  | 3 => .e
  | 4 => .h
  | 5 => .l
  | 6 => .m
  | _ => .a

/-- The table of R86: 0 to 3 are BC, DE, HL, SP. -/
def pairOfField (x : BitVec 2) : Pair :=
  match x.toNat with
  | 0 => .bc
  | 1 => .de
  | 2 => .hl
  | _ => .sp

/-- The table of R87: 0 to 3 are BC, DE, HL, PSW. -/
def stackPairOfField (x : BitVec 2) : StackPair :=
  match x.toNat with
  | 0 => .bc
  | 1 => .de
  | 2 => .hl
  | _ => .psw

/-- The table of R88, whether condition NZ, Z, NC, C, PO, PE, P or M holds. -/
def conditionOfField (x : BitVec 3) (f : Flags) : Bool :=
  match x.toNat with
  | 0 => f.z == false
  | 1 => f.z == true
  | 2 => f.cy == false
  | 3 => f.cy == true
  | 4 => f.p == false
  | 5 => f.p == true
  | 6 => f.s == false
  | _ => f.s == true

/-- MOV in any form: `01dddsss` but for 0x76 (R82, R94). -/
def isMov (i : Instr) : Bool := fits i 0xC0 0x40 && i.opcode != 0x76

/-- ALU operation `k` of R90, in its register or memory form `10ooosss` or its immediate form
`11ooo110`. -/
def isAlu (i : Instr) (k : Nat) : Bool :=
  fits i 0xF8 (BitVec.ofNat 8 (0x80 + 8 * k)) || fits i 0xFF (BitVec.ofNat 8 (0xC6 + 8 * k))

/-- An ALU instruction in any of its eight operations. -/
def isAnyAlu (i : Instr) : Bool := fits i 0xC0 0x80 || fits i 0xC7 0xC6

/-- CALL in any encoding: 0xCD, 0xDD, 0xED, 0xFD (R93). -/
def isCall (i : Instr) : Bool := fits i 0xCF 0xCD

/-- The second operand of an ALU instruction (R90): the one sss selects, or the immediate byte. -/
def aluOperand (i : Instr) (s : State) : Byte :=
  if fits i 0xC0 0x80 then s.getOp (selOfField (field20 i)) else i.imm8

/-! What an instruction may write. The state is the one its meaning runs in. -/

/-- The addresses an instruction stores to (R57). -/
def storedAddrs (i : Instr) (s : State) : List Word :=
  if (isMov i && fits i 0xF8 0x70) || i.opcode == 0x36 || i.opcode == 0x34 || i.opcode == 0x35 then
    [s.hl]                                                   -- MOV M,r; MVI M; INR M; DCR M
  else if i.opcode == 0x32 then [i.imm16]                    -- STA
  else if i.opcode == 0x22 then [i.imm16, i.imm16 + 1]       -- SHLD
  else if i.opcode == 0x02 then [s.bc]                       -- STAX B
  else if i.opcode == 0x12 then [s.de]                       -- STAX D
  else if fits i 0xCF 0xC5 || isCall i || fits i 0xC7 0xC7 then
    [s.sp - 1, s.sp - 2]                                     -- PUSH, CALL, RST
  else if fits i 0xC7 0xC4 then                              -- Cccc
    if conditionOfField (field53 i) s.flags then [s.sp - 1, s.sp - 2] else []
  else if i.opcode == 0xE3 then [s.sp, s.sp + 1]             -- XTHL
  else []

/-- The register a selector names, if it names one. -/
def regsOfSel : Sel → List Reg
  | .b => [.b]
  | .c => [.c]
  | .d => [.d]
  | .e => [.e]
  | .h => [.h]
  | .l => [.l]
  | .m => []
  | .a => [.a]

/-- The general registers an instruction may write (R21, R22 and the instruction rules). -/
def writtenRegs (i : Instr) : List Reg :=
  if isMov i || fits i 0xC7 0x06 || fits i 0xC7 0x04 || fits i 0xC7 0x05 then
    regsOfSel (selOfField (field53 i))                       -- MOV, MVI, INR, DCR
  else if isAnyAlu i then if isAlu i 7 then [] else [.a]     -- ALU; CMP writes none
  else if fits i 0xCF 0x01 || fits i 0xCF 0x03 || fits i 0xCF 0x0B then
    match pairOfField (field54 i) with                       -- LXI, INX, DCX
    | .bc => [.b, .c]
    | .de => [.d, .e]
    | .hl => [.h, .l]
    | .sp => []
  else if fits i 0xCF 0xC1 then
    match stackPairOfField (field54 i) with                  -- POP
    | .bc => [.b, .c]
    | .de => [.d, .e]
    | .hl => [.h, .l]
    | .psw => [.a]
  else if fits i 0xCF 0x09 || i.opcode == 0x2A || i.opcode == 0xE3 then [.h, .l]  -- DAD, LHLD, XTHL
  else if i.opcode == 0xEB then [.d, .e, .h, .l]             -- XCHG
  else if fits i 0xEF 0x0A || i.opcode == 0x3A || i.opcode == 0xDB || i.opcode == 0x27 ||
    i.opcode == 0x2F || fits i 0xE7 0x07 then [.a]           -- LDAX, LDA, IN, DAA, CMA, rotates
  else []

/-- The flags an instruction may write, as the table of R30 lists them for each AUX_CARRY_MODE. -/
def writtenFlags (mode : AuxCarryMode) (i : Instr) : Flags :=
  let incDec := fits i 0xC7 0x04 || fits i 0xC7 0x05
  let daa := i.opcode == 0x27
  let popPsw := i.opcode == 0xF1
  let zsp := isAnyAlu i || incDec || daa || popPsw
  { z := zsp
    s := zsp
    p := zsp
    cy := isAnyAlu i || fits i 0xCF 0x09 || fits i 0xE7 0x07 || i.opcode == 0x37 ||
      i.opcode == 0x3F || daa || popPsw
    ac := isAlu i 4 || isAlu i 5 || isAlu i 6 || popPsw ||
      (mode == .intel && (isAnyAlu i || incDec || daa)) }

/-- The instructions that may write SP (R26): LXI SP, INX SP, DCX SP, SPHL, PUSH, POP, CALL, Cccc,
RST, RET, Rccc. -/
def mayWriteSp (i : Instr) : Bool :=
  i.opcode == 0x31 || i.opcode == 0x33 || i.opcode == 0x3B || i.opcode == 0xF9 ||
  fits i 0xCF 0xC5 || fits i 0xCF 0xC1 || isCall i || fits i 0xC7 0xC4 || fits i 0xC7 0xC7 ||
  fits i 0xEF 0xC9 || fits i 0xC7 0xC0

/-- The instructions that may write PC (R28): JMP, Jccc, CALL, Cccc, RET, Rccc, RST, PCHL, with
their aliases. -/
def mayWritePc (i : Instr) : Bool :=
  fits i 0xF7 0xC3 || fits i 0xC7 0xC2 || isCall i || fits i 0xC7 0xC4 || fits i 0xEF 0xC9 ||
  fits i 0xC7 0xC0 || fits i 0xC7 0xC7 || i.opcode == 0xE9

/-- The event an instruction emits (R317): Out from OUT, In from IN, Halt from HLT, no other. -/
def emittedEvents (i : Instr) (s : State) : List Event :=
  if i.opcode == 0xD3 then [.out i.imm8 s.a]
  else if i.opcode == 0xDB then [.input i.imm8]
  else if i.opcode == 0x76 then [.halt]
  else []

/-! The invariant, and decimal numbers. -/

/-- The invariant every step keeps: memory is in its canonical form. The registers, flags, SP and PC
hold values of their widths (R39) by their types. -/
def Inv (s : State) : Prop := Memory.wf s.mem = true

/-- Both digits of a byte are decimal digits. -/
def isBcd (v : Byte) : Prop := v.toNat % 16 ≤ 9 ∧ v.toNat / 16 ≤ 9

/-- The number two decimal digits stand for. -/
def bcdValue (v : Byte) : Nat := 10 * (v.toNat / 16) + v.toNat % 16

end Sys2Proof.Machine
end

