-- ==== Sys2Proof/Certificates/Slice0/Obligations.lean ====
section
/-! DEFINITION. The statements for the provers. A statement about an instruction names it by the
opcode pattern that the spec's encoding gives it (30_encoding.md R82), and is about the state in
which its meaning runs: PC is already the address of the next instruction (R100). -/

open Sys2Proof Sys2Proof.Machine

/-! ## Reset, encoding, decoding -/

/-- R40, R341, R343: what reset leaves. -/
def Obligations.ResetLeavesEveryElementZero : Prop :=
  (∀ r : Reg, State.reset.getReg r = 0) ∧ State.reset.sp = 0 ∧ State.reset.pc = 0 ∧
  State.reset.flags = { z := false, s := false, p := false, cy := false, ac := false } ∧
  State.reset.inte = false ∧ (∀ x : Word, State.reset.readByte x = 0)

/-- R82, R84, R91: words written out from the spec's encodings, one or two of each family. -/
def Obligations.SpecWordsDecodeToTheirInstructions : Prop :=
  decode [0b01001000] = .ok (.movCB, []) ∧                          -- 01dddsss, ddd = C, sss = B
  decode [0b00111110, 0x05] = .ok (.mviA 0x05, []) ∧                -- 00ddd110, ddd = A
  decode [0b00100001, 0x34, 0x12] = .ok (.lxiH 0x1234, []) ∧        -- 00rr0001, rr = HL
  decode [0b10000000] = .ok (.addB, []) ∧                           -- 10ooosss, ooo = ADD, sss = B
  decode [0b11011110, 0x01] = .ok (.sbi 0x01, []) ∧                 -- 11ooo110, ooo = SBI
  decode [0b10111110] = .ok (.cmpM, []) ∧                           -- 10ooosss, ooo = CMP, sss = M
  decode [0b11011100, 0x00, 0x02] = .ok (.cc 0x0200, []) ∧          -- 11ccc100, ccc = C
  decode [0b11111111] = .ok (.rst7, []) ∧                           -- 11nnn111, nnn = 7
  decode [0b11110101] = .ok (.pushPSW, []) ∧                        -- 11rr0101, rr = PSW
  decode [0b01110110] = .ok (.hlt, [])                              -- 0x76 is HLT (R94)

/-- R92: encoding loses nothing: whatever follows, decoding the encoding of an instruction gives that
instruction, with every operand, and leaves what follows. -/
def Obligations.DecodeReadsBackEveryEncoding : Prop :=
  ∀ (i : Instr) (rest : List Byte), decode (encode i ++ rest) = .ok (i, rest)

/-- R92, R96: decoding loses nothing: the bytes an instruction was decoded from are its encoding.
Each instruction has one spelling because the aliases of R93, which the spec has decode as NOP, JMP,
RET and CALL, are constructors of their own: the model's choice (assumption log 8). -/
def Obligations.EncodeGivesBackTheDecodedBytes : Prop :=
  ∀ (bytes rest : List Byte) (i : Instr), decode bytes = .ok (i, rest) → encode i ++ rest = bytes

/-- R92, R95: every opcode byte selects exactly one instruction, whatever bytes follow. That the
instruction's own opcode is that very byte, and that it alone encodes to the bytes, holds of the
twelve aliases of R93 too because they are constructors of their own: the model's choice (assumption
log 8), which R92 and R95 do not state. -/
def Obligations.EveryOpcodeSelectsExactlyOneInstruction : Prop :=
  ∀ op b2 b3 : Byte, ∃ (i : Instr) (rest : List Byte),
    decode [op, b2, b3] = .ok (i, rest) ∧ i.opcode = op ∧
    ∀ (j : Instr) (rest' : List Byte), encode j ++ rest' = [op, b2, b3] → j = i ∧ rest' = rest

/-! ## Steps -/

/-- R100, R28: when the bytes at PC onward (modulo 65,536) are the encoding of `i`, a step is `i`'s
meaning run in the state whose PC is already past the instruction's bytes, all else unchanged. -/
def Obligations.StepRunsTheInstructionAtPc : Prop :=
  ∀ (s : State) (i : Instr),
    (∀ k : Nat, k < (encode i).length →
      some (s.readByte (s.pc + BitVec.ofNat 16 k)) = (encode i)[k]?) →
    step s = exec i { s with pc := s.pc + BitVec.ofNat 16 (encode i).length }

/-- R95, R314: no step of any state stops. That UnimplementedOpcode is therefore unreachable is the
spec's own inference (R311). -/
def Obligations.EveryStepGivesANextState : Prop :=
  ∀ s : State, ∃ t : State, step s = .next t

/-- The memory of reset is in canonical form. The form is the model's choice (assumption log 4). -/
def Obligations.ResetMeetsTheInvariant : Prop := Inv State.reset

/-- Every step keeps memory in its canonical form. The form is the model's choice (assumption log
4). -/
def Obligations.EveryStepKeepsTheInvariant : Prop :=
  ∀ s t : State, Inv s → step s = .next t → Inv t

/-- R124: AUX_CARRY_MODE is fixed for a run: no step changes it. That the parameter stands in the
state is the model's choice (assumption log 2). -/
def Obligations.NoStepChangesAuxCarryMode : Prop :=
  ∀ s t : State, step s = .next t → t.auxCarryMode = s.auxCarryMode

/-- R317: a step reports at most one event, In, Out and Halt each only from its own instruction,
and the events reported before stay. R317 marks this as its own inference; the list of events is the
model's choice (assumption log 3). -/
def Obligations.StepEmitsOnlyItsInstructionsEvent : Prop :=
  ∀ (s t : State) (i : Instr) (rest : List Byte),
    decode s.fetchBytes = .ok (i, rest) → step s = .next t →
    t.events = s.events ++ emittedEvents i s ∧ (emittedEvents i s).length ≤ 1

/-- R20, R37: a step depends on nothing the core does not hold: other events before it change nothing
but the events before it. The list of events is the model's choice (assumption log 3). -/
def Obligations.EarlierEventsAreNeverRead : Prop :=
  ∀ (s : State) (es : List Event), ∃ (t : State) (new : List Event),
    step s = .next { t with events := s.events ++ new } ∧
    step { s with events := es } = .next { t with events := es ++ new }

/-- R32, R316: INTE is read by nothing: the other value of INTE changes a step's result in INTE
alone, and not even there when the instruction is EI (0xFB) or DI (0xF3). -/
def Obligations.InterruptEnableIsNeverRead : Prop :=
  ∀ (s : State) (v : Bool), ∃ t : State, step s = .next t ∧
    step { s with inte := v } =
      .next (if s.readByte s.pc = 0xFB ∨ s.readByte s.pc = 0xF3 then t else { t with inte := v })

/-! ## What an instruction leaves unchanged, for every instruction -/

/-- R57, R136: an instruction changes no byte of memory but those it stores to. -/
def Obligations.MemoryChangesOnlyAtStoredAddresses : Prop :=
  ∀ (i : Instr) (s t : State), exec i s = .next t →
    ∀ x : Word, x ∉ storedAddrs i s → t.readByte x = s.readByte x

/-- R21, R22: an instruction changes no general register but its destinations. -/
def Obligations.RegistersChangeOnlyAtDestinations : Prop :=
  ∀ (i : Instr) (s t : State), exec i s = .next t →
    ∀ r : Reg, r ∉ writtenRegs i → t.getReg r = s.getReg r

/-- R30, R31, R136: an instruction changes no flag but those R30 names for it in the mode. -/
def Obligations.FlagsChangeOnlyWhereNamed : Prop :=
  ∀ (i : Instr) (s t : State), exec i s = .next t →
    ((writtenFlags s.auxCarryMode i).z = false → t.flags.z = s.flags.z) ∧
    ((writtenFlags s.auxCarryMode i).s = false → t.flags.s = s.flags.s) ∧
    ((writtenFlags s.auxCarryMode i).p = false → t.flags.p = s.flags.p) ∧
    ((writtenFlags s.auxCarryMode i).cy = false → t.flags.cy = s.flags.cy) ∧
    ((writtenFlags s.auxCarryMode i).ac = false → t.flags.ac = s.flags.ac)

/-- R26, R28, R136: SP, PC and INTE change only by the instructions that may write them; IN alone
makes a draw; AUX_CARRY_MODE is never written. The draws, the mode and the events stand in the state
by the model's choice (assumption log 1, 2, 3). -/
def Obligations.OtherStateChangesOnlyByItsInstructions : Prop :=
  ∀ (i : Instr) (s t : State), exec i s = .next t →
    (mayWriteSp i = false → t.sp = s.sp) ∧
    (mayWritePc i = false → t.pc = s.pc) ∧
    (i.opcode ≠ 0xFB → i.opcode ≠ 0xF3 → t.inte = s.inte) ∧
    (i.opcode ≠ 0xDB → t.draws = s.draws) ∧
    t.events = s.events ++ emittedEvents i s ∧
    t.auxCarryMode = s.auxCarryMode

/-! ## Memory, operands, pairs, the stack, the flags byte -/

/-- R33, R51, R52: a byte written is the byte read there and every other byte is as before; memory in
canonical form is nothing but its 65,536 bytes. The form is the model's choice (assumption log 4). -/
def Obligations.MemoryIsExactlyItsBytes : Prop :=
  (∀ (s : State) (x y : Word) (v : Byte),
    s.writeByte x v = { s with mem := (s.writeByte x v).mem } ∧
    (s.writeByte x v).readByte y = if y = x then v else s.readByte y) ∧
  ∀ s t : State, Inv s → Inv t → (∀ x : Word, s.readByte x = t.readByte x) → s.mem = t.mem

/-- R53, R55: a 16-bit value has its low byte at `x` and its high byte at `x + 1` modulo 65,536. -/
def Obligations.WordsAreLittleEndian : Prop :=
  ∀ (s : State) (x : Word) (v : Word),
    (s.writeWord x v).readByte x = v.extractLsb' 0 8 ∧
    (s.writeWord x v).readByte (x + 1) = v.extractLsb' 8 8 ∧
    (∀ y : Word, y ≠ x → y ≠ x + 1 → (s.writeWord x v).readByte y = s.readByte y) ∧
    (s.writeWord x v).readWord x = v

/-- R128, R129: what a selector's operand is, and what writing it does: one register or the byte at
HL, and nothing else. -/
def Obligations.SelectorsNameOneLocation : Prop :=
  ∀ (s : State) (v : Byte),
    (s.getOp .b = s.b ∧ s.getOp .c = s.c ∧ s.getOp .d = s.d ∧ s.getOp .e = s.e ∧ s.getOp .h = s.h ∧
      s.getOp .l = s.l ∧ s.getOp .a = s.a ∧ s.getOp .m = s.readByte (s.h ++ s.l)) ∧
    (s.setOp .b v = { s with b := v } ∧ s.setOp .c v = { s with c := v } ∧
      s.setOp .d v = { s with d := v } ∧ s.setOp .e v = { s with e := v } ∧
      s.setOp .h v = { s with h := v } ∧ s.setOp .l v = { s with l := v } ∧
      s.setOp .a v = { s with a := v } ∧ s.setOp .m v = s.writeByte (s.h ++ s.l) v) ∧
    ∀ x : Sel, (s.setOp x v).getOp x = v

/-- R23, R24, R130: what a pair is, and what writing it does. -/
def Obligations.PairsAreTheirRegisters : Prop :=
  ∀ (s : State) (v : Word),
    (s.getRP .bc = s.b ++ s.c ∧ s.getRP .de = s.d ++ s.e ∧ s.getRP .hl = s.h ++ s.l ∧
      s.getRP .sp = s.sp) ∧
    (s.setRP .bc v = { s with b := v.extractLsb' 8 8, c := v.extractLsb' 0 8 } ∧
      s.setRP .de v = { s with d := v.extractLsb' 8 8, e := v.extractLsb' 0 8 } ∧
      s.setRP .hl v = { s with h := v.extractLsb' 8 8, l := v.extractLsb' 0 8 } ∧
      s.setRP .sp v = { s with sp := v }) ∧
    ∀ p : Pair, (s.setRP p v).getRP p = v

/-- R34, R35: the places of the five flags in the packed byte, and the round trip both ways (R35 marks
it as its own inference). Bits 7 to 5, which the source leaves open (ID1, decision D6), are left out. -/
def Obligations.FlagsByteRoundTrips : Prop :=
  ∀ (f : Flags) (v : Byte),
    ((packF f)[0] = f.z ∧ (packF f)[1] = f.s ∧ (packF f)[2] = f.p ∧ (packF f)[3] = f.cy ∧
      (packF f)[4] = f.ac) ∧
    unpackF (packF f) = f ∧
    unpackF v = { z := v[0], s := v[1], p := v[2], cy := v[3], ac := v[4] } ∧
    packF (unpackF v) &&& 0x1F = v &&& 0x1F

/-! ## Data transfer -/

/-- R151 to R153: every MOV (all 63) copies its source operand to its destination operand. -/
def Obligations.MovCopiesSourceToDestination : Prop :=
  ∀ (i : Instr) (s : State), isMov i = true →
    exec i s = .next (s.setOp (selOfField (field53 i)) (s.getOp (selOfField (field20 i))))

/-- R154, R155: every MVI writes its immediate byte to its operand. -/
def Obligations.MviLoadsItsImmediate : Prop :=
  ∀ (i : Instr) (s : State), fits i 0xC7 0x06 = true →
    exec i s = .next (s.setOp (selOfField (field53 i)) i.imm8)

/-- R156: every LXI writes its 16-bit immediate to its pair. -/
def Obligations.LxiLoadsItsPair : Prop :=
  ∀ (i : Instr) (s : State), fits i 0xCF 0x01 = true →
    exec i s = .next (s.setRP (pairOfField (field54 i)) i.imm16)

/-- R157, R158, R161, R162: LDA and LDAX load A from the address, STA and STAX store A there. -/
def Obligations.AccumulatorLoadsAndStores : Prop :=
  ∀ (i : Instr) (s : State),
    (i.opcode = 0x3A → exec i s = .next { s with a := s.readByte i.imm16 }) ∧
    (i.opcode = 0x32 → exec i s = .next (s.writeByte i.imm16 s.a)) ∧
    (fits i 0xEF 0x0A = true →
      exec i s = .next { s with a := s.readByte (if i.opcode[4] then s.d ++ s.e else s.b ++ s.c) }) ∧
    (fits i 0xEF 0x02 = true →
      exec i s = .next (s.writeByte (if i.opcode[4] then s.d ++ s.e else s.b ++ s.c) s.a))

/-- R159, R160: LHLD loads L from the address and H from the next; SHLD stores them so. -/
def Obligations.LhldAndShldMoveHl : Prop :=
  ∀ (s : State) (x : Word),
    exec (.lhld x) s = .next { s with l := s.readByte x, h := s.readByte (x + 1) } ∧
    ∃ t : State, exec (.shld x) s = .next t ∧ t = { s with mem := t.mem } ∧
      t.readByte x = s.l ∧ t.readByte (x + 1) = s.h ∧
      ∀ y : Word, y ≠ x → y ≠ x + 1 → t.readByte y = s.readByte y

/-- R163: XCHG exchanges H with D and L with E; twice, it restores the state. -/
def Obligations.XchgExchangesAndRestores : Prop :=
  ∀ s : State, ∃ t : State,
    exec .xchg s = .next t ∧ t = { s with h := s.d, l := s.e, d := s.h, e := s.l } ∧
    exec .xchg t = .next s

/-! ## Arithmetic -/

/-- R122, R181 to R186: ADD and ADI, ADC and ACI in every form: A and every flag. -/
def Obligations.AdditionWritesAccumulatorAndFlags : Prop :=
  ∀ (i : Instr) (s : State) (cin : Bool),
    ((isAlu i 0 = true ∧ cin = false) ∨ (isAlu i 1 = true ∧ cin = s.flags.cy)) →
    let v := aluOperand i s
    let t := s.a.toNat + v.toNat + cin.toNat
    let r : Byte := BitVec.ofNat 8 t
    exec i s = .next { s with
      a := r
      flags :=
        { z := decide (r = 0)
          s := r[7]
          p := decide (popcount r % 2 = 0)
          cy := decide (t > 255)
          ac := match s.auxCarryMode with
            | .preserve => s.flags.ac
            | .intel => decide (s.a.toNat % 16 + v.toNat % 16 + cin.toNat > 15) } }

/-- R187 to R192 (R123): SUB and SUI, SBB and SBI in every form: A and every flag. -/
def Obligations.SubtractionWritesAccumulatorAndFlags : Prop :=
  ∀ (i : Instr) (s : State) (bin : Bool),
    ((isAlu i 2 = true ∧ bin = false) ∨ (isAlu i 3 = true ∧ bin = s.flags.cy)) →
    let v := aluOperand i s
    let r : Byte := BitVec.ofNat 8 (s.a.toNat + 512 - v.toNat - bin.toNat)
    exec i s = .next { s with
      a := r
      flags :=
        { z := decide (r = 0)
          s := r[7]
          p := decide (popcount r % 2 = 0)
          cy := decide (s.a.toNat < v.toNat + bin.toNat)
          ac := match s.auxCarryMode with
            | .preserve => s.flags.ac
            | .intel => decide (v.toNat % 16 + bin.toNat ≤ s.a.toNat % 16) } }

/-- R126, R193, R194: INR writes its operand plus 1 modulo 256, Z, S, P and (intel) AC; CY is kept. -/
def Obligations.IncrementWritesOperandAndKeepsCarry : Prop :=
  ∀ (i : Instr) (s : State), fits i 0xC7 0x04 = true →
    let x := selOfField (field53 i)
    let r : Byte := s.getOp x + 1
    exec i s = .next (State.setOp { s with
      flags :=
        { z := decide (r = 0)
          s := r[7]
          p := decide (popcount r % 2 = 0)
          cy := s.flags.cy
          ac := match s.auxCarryMode with
            | .preserve => s.flags.ac
            | .intel => decide ((s.getOp x).toNat % 16 = 15) } } x r)

/-- R127, R195, R196: DCR writes its operand less 1 modulo 256, Z, S, P and (intel) AC; CY is kept. -/
def Obligations.DecrementWritesOperandAndKeepsCarry : Prop :=
  ∀ (i : Instr) (s : State), fits i 0xC7 0x05 = true →
    let x := selOfField (field53 i)
    let r : Byte := s.getOp x - 1
    exec i s = .next (State.setOp { s with
      flags :=
        { z := decide (r = 0)
          s := r[7]
          p := decide (popcount r % 2 = 0)
          cy := s.flags.cy
          ac := match s.auxCarryMode with
            | .preserve => s.flags.ac
            | .intel => decide ((s.getOp x).toNat % 16 ≠ 0) } } x r)

/-- R197, R198: INX and DCX add 1 to or take 1 from their pair modulo 65,536; no flag changes. -/
def Obligations.PairIncrementAndDecrement : Prop :=
  ∀ (i : Instr) (s : State),
    let p := pairOfField (field54 i)
    (fits i 0xCF 0x03 = true →
      exec i s = .next (s.setRP p (BitVec.ofNat 16 ((s.getRP p).toNat + 1)))) ∧
    (fits i 0xCF 0x0B = true →
      exec i s = .next (s.setRP p (BitVec.ofNat 16 ((s.getRP p).toNat + 65535))))

/-- R135, R199: DAD adds its pair to HL modulo 65,536; CY is the carry out; Z, S, P, AC are kept. -/
def Obligations.DadAddsPairToHl : Prop :=
  ∀ (i : Instr) (s : State), fits i 0xCF 0x09 = true →
    let t := (s.h ++ s.l).toNat + (s.getRP (pairOfField (field54 i))).toNat
    let r : Word := BitVec.ofNat 16 t
    exec i s = .next { s with
      h := r.extractLsb' 8 8
      l := r.extractLsb' 0 8
      flags := { s.flags with cy := decide (t > 65535) } }

/-- R200: DAA, its correction, its result and its flags. -/
def Obligations.DaaCorrectsTheAccumulator : Prop :=
  ∀ (s : State) (corr : Nat),
    let lsb := s.a.toNat % 16
    let msb := s.a.toNat / 16
    let low := s.flags.ac = true ∨ lsb > 9
    let high := s.flags.cy = true ∨ msb > 9 ∨ (msb ≥ 9 ∧ lsb > 9)
    ((low ∧ high ∧ corr = 0x66) ∨ (low ∧ ¬ high ∧ corr = 0x06) ∨ (¬ low ∧ high ∧ corr = 0x60) ∨
      (¬ low ∧ ¬ high ∧ corr = 0)) →
    let r : Byte := BitVec.ofNat 8 (s.a.toNat + corr)
    exec .daa s = .next { s with
      a := r
      flags :=
        { z := decide (r = 0)
          s := r[7]
          p := decide (popcount r % 2 = 0)
          cy := s.flags.cy || decide (corr ≥ 0x60)
          ac := match s.auxCarryMode with
            | .preserve => s.flags.ac
            | .intel => decide (lsb + corr % 16 > 15) } }

/-- R200 with R122, R124: in `intel` mode, ACI then DAA adds decimal numbers: from decimal digits
in A and in the immediate, A is decimal again and CY:A is the decimal sum with the carry in. -/
def Obligations.AciThenDaaAddsDecimalInIntelMode : Prop :=
  ∀ (s : State) (v : Byte), s.auxCarryMode = .intel → isBcd s.a → isBcd v →
    ∃ t u : State, exec (.aci v) s = .next t ∧ exec .daa t = .next u ∧ isBcd u.a ∧
      100 * u.flags.cy.toNat + bcdValue u.a = bcdValue s.a + bcdValue v + s.flags.cy.toNat

/-! ## Logical -/

/-- R137, R220 to R229: ANA, XRA, ORA and their immediates: A is the bitwise result, Z, S, P are
from it, CY and AC are cleared in both modes. -/
def Obligations.BitwiseWritesAccumulatorAndClearsCarries : Prop :=
  ∀ (i : Instr) (s : State) (r : Byte),
    let v := aluOperand i s
    ((isAlu i 4 = true ∧ r = s.a &&& v) ∨ (isAlu i 5 = true ∧ r = s.a ^^^ v) ∨
      (isAlu i 6 = true ∧ r = s.a ||| v)) →
    exec i s = .next { s with
      a := r
      flags :=
        { z := decide (r = 0)
          s := r[7]
          p := decide (popcount r % 2 = 0)
          cy := false
          ac := false } }

/-- R230 to R232: CMP and CPI set the flags a subtraction would and write nothing else; Z is
equality and CY is unsigned less-than. -/
def Obligations.CompareSetsFlagsAndKeepsAccumulator : Prop :=
  ∀ (i : Instr) (s : State), isAlu i 7 = true →
    let v := aluOperand i s
    let r : Byte := s.a - v
    exec i s = .next { s with
      flags :=
        { z := decide (s.a = v)
          s := r[7]
          p := decide (popcount r % 2 = 0)
          cy := decide (s.a.toNat < v.toNat)
          ac := match s.auxCarryMode with
            | .preserve => s.flags.ac
            | .intel => decide (v.toNat % 16 ≤ s.a.toNat % 16) } }

/-- R233 to R236: RLC and RRC rotate A, the bit that goes round to CY; RAL and RAR rotate the 9-bit
values CY:A and A:CY. Z, S, P and AC are kept. -/
def Obligations.RotatesMoveAccumulatorAndCarry : Prop :=
  ∀ s : State,
    exec .rlc s = .next { s with
      a := s.a.rotateLeft 1, flags := { s.flags with cy := s.a[7] } } ∧
    exec .rrc s = .next { s with
      a := s.a.rotateRight 1, flags := { s.flags with cy := s.a[0] } } ∧
    (∃ (r : Byte) (c : Bool),
      exec .ral s = .next { s with a := r, flags := { s.flags with cy := c } } ∧
      BitVec.ofBool c ++ r = (BitVec.ofBool s.flags.cy ++ s.a).rotateLeft 1) ∧
    (∃ (r : Byte) (c : Bool),
      exec .rar s = .next { s with a := r, flags := { s.flags with cy := c } } ∧
      r ++ BitVec.ofBool c = (s.a ++ BitVec.ofBool s.flags.cy).rotateRight 1)

/-- R237 to R239: CMA complements A and no flag; CMC and STC write CY alone. -/
def Obligations.ComplementAndCarryInstructions : Prop :=
  ∀ s : State,
    exec .cma s = .next { s with a := ~~~ s.a } ∧
    exec .cmc s = .next { s with flags := { s.flags with cy := !s.flags.cy } } ∧
    exec .stc s = .next { s with flags := { s.flags with cy := true } }

/-! ## Branch -/

/-- R251, R258, R259: JMP in both encodings and PCHL load PC and change nothing else. -/
def Obligations.JumpsLoadPc : Prop :=
  ∀ (i : Instr) (s : State),
    (fits i 0xF7 0xC3 = true → exec i s = .next { s with pc := i.imm16 }) ∧
    (i.opcode = 0xE9 → exec i s = .next { s with pc := s.h ++ s.l })

/-- R252, R132: Jccc loads PC when its condition holds and otherwise changes nothing. -/
def Obligations.ConditionalJumpFollowsItsCondition : Prop :=
  ∀ (i : Instr) (s : State), fits i 0xC7 0xC2 = true →
    exec i s =
      .next { s with pc := if conditionOfField (field53 i) s.flags then i.imm16 else s.pc }

/-- R133, R253, R257, R261: CALL in its four encodings and RST n push the return address (high byte
at SP - 1, low byte at SP - 2), take 2 from SP and load PC, changing nothing else. -/
def Obligations.CallsPushTheReturnAddress : Prop :=
  ∀ (i : Instr) (s : State) (target : Word),
    ((isCall i = true ∧ target = i.imm16) ∨
      (fits i 0xC7 0xC7 = true ∧ target = BitVec.ofNat 16 (8 * (field53 i).toNat))) →
    ∃ t : State, exec i s = .next t ∧ t = { s with sp := s.sp - 2, pc := target, mem := t.mem } ∧
      t.readByte (s.sp - 1) = s.pc.extractLsb' 8 8 ∧ t.readByte (s.sp - 2) = s.pc.extractLsb' 0 8 ∧
      ∀ x : Word, x ≠ s.sp - 1 → x ≠ s.sp - 2 → t.readByte x = s.readByte x

/-- R254, R132, R133: Cccc does what CALL does when its condition holds, and otherwise nothing. -/
def Obligations.ConditionalCallFollowsItsCondition : Prop :=
  ∀ (i : Instr) (s : State), fits i 0xC7 0xC4 = true →
    ∃ t : State, exec i s = .next t ∧
      (conditionOfField (field53 i) s.flags = false → t = s) ∧
      (conditionOfField (field53 i) s.flags = true →
        t = { s with sp := s.sp - 2, pc := i.imm16, mem := t.mem } ∧
        t.readByte (s.sp - 1) = s.pc.extractLsb' 8 8 ∧
        t.readByte (s.sp - 2) = s.pc.extractLsb' 0 8 ∧
        ∀ x : Word, x ≠ s.sp - 1 → x ≠ s.sp - 2 → t.readByte x = s.readByte x)

/-- R134, R255, R260: RET in both encodings loads PC with the word at SP and adds 2 to SP, changing
nothing else. -/
def Obligations.ReturnPopsPc : Prop :=
  ∀ (i : Instr) (s : State), fits i 0xEF 0xC9 = true →
    exec i s =
      .next { s with pc := s.readByte (s.sp + 1) ++ s.readByte s.sp, sp := s.sp + 2 }

/-- R256, R132, R134: Rccc does what RET does when its condition holds, and otherwise nothing. -/
def Obligations.ConditionalReturnFollowsItsCondition : Prop :=
  ∀ (i : Instr) (s : State), fits i 0xC7 0xC0 = true →
    exec i s = .next
      (if conditionOfField (field53 i) s.flags then
        { s with pc := s.readByte (s.sp + 1) ++ s.readByte s.sp, sp := s.sp + 2 }
      else s)

/-- R133, R134, R253, R255: CALL and then RET comes back: all is as before the CALL but the two bytes
of memory under SP, and PC is the return address. -/
def Obligations.CallThenRetReturns : Prop :=
  ∀ (s : State) (target : Word), ∃ t u : State,
    exec (.call target) s = .next t ∧ exec .ret t = .next u ∧ u = { s with mem := u.mem } ∧
    ∀ x : Word, x ≠ s.sp - 1 → x ≠ s.sp - 2 → u.readByte x = s.readByte x

/-! ## Stack, I/O, control -/

/-- R133, R281, R282: PUSH stores its pair (the PSW is A and the flags byte), the high byte at
SP - 1 and the low byte at SP - 2, and takes 2 from SP, changing nothing else. -/
def Obligations.PushStoresItsPair : Prop :=
  ∀ (i : Instr) (s : State) (hi lo : Byte), fits i 0xCF 0xC5 = true →
    (match stackPairOfField (field54 i) with
      | .bc => hi = s.b ∧ lo = s.c
      | .de => hi = s.d ∧ lo = s.e
      | .hl => hi = s.h ∧ lo = s.l
      | .psw => hi = s.a ∧ lo = packF s.flags) →
    ∃ t : State, exec i s = .next t ∧ t = { s with sp := s.sp - 2, mem := t.mem } ∧
      t.readByte (s.sp - 1) = hi ∧ t.readByte (s.sp - 2) = lo ∧
      ∀ x : Word, x ≠ s.sp - 1 → x ≠ s.sp - 2 → t.readByte x = s.readByte x

/-- R134, R283, R284: POP loads its pair from SP (low byte) and SP + 1 (high byte) and adds 2 to SP;
POP PSW loads A and all five flags from bits 0 to 4 of the low byte. -/
def Obligations.PopLoadsItsPair : Prop :=
  ∀ (i : Instr) (s : State), fits i 0xCF 0xC1 = true →
    let lo := s.readByte s.sp
    let hi := s.readByte (s.sp + 1)
    exec i s = .next (match stackPairOfField (field54 i) with
      | .bc => { s with b := hi, c := lo, sp := s.sp + 2 }
      | .de => { s with d := hi, e := lo, sp := s.sp + 2 }
      | .hl => { s with h := hi, l := lo, sp := s.sp + 2 }
      | .psw => { s with
          a := hi
          flags := { z := lo[0], s := lo[1], p := lo[2], cy := lo[3], ac := lo[4] }
          sp := s.sp + 2 })

/-- R283, R284: PUSH and then POP of the same pair restores the registers, the flags and SP. -/
def Obligations.PushThenPopRestores : Prop :=
  ∀ (push pop : Instr) (s : State), fits push 0xCF 0xC5 = true → fits pop 0xCF 0xC1 = true →
    field54 push = field54 pop →
    ∃ t u : State, exec push s = .next t ∧ exec pop t = .next u ∧ u = { s with mem := t.mem }

/-- R285: XTHL exchanges L with the byte at SP and H with the byte at SP + 1, changing nothing else. -/
def Obligations.XthlExchangesHlWithTheTopOfStack : Prop :=
  ∀ s : State, ∃ t : State, exec .xthl s = .next t ∧
    t = { s with l := s.readByte s.sp, h := s.readByte (s.sp + 1), mem := t.mem } ∧
    t.readByte s.sp = s.l ∧ t.readByte (s.sp + 1) = s.h ∧
    ∀ x : Word, x ≠ s.sp → x ≠ s.sp + 1 → t.readByte x = s.readByte x

/-- R286, R289, R290: SPHL loads SP from HL; EI sets INTE and DI clears it; each changes nothing
else. -/
def Obligations.SphlEiAndDi : Prop :=
  ∀ s : State,
    exec .sphl s = .next { s with sp := s.h ++ s.l } ∧
    exec .ei s = .next { s with inte := true } ∧
    exec .di s = .next { s with inte := false }

/-- R287, R288, R291: IN emits In(port) and loads A with the byte the environment supplies for the
port at this draw (a free value), OUT emits Out(port, A), HLT emits Halt; each changes nothing
else. The counter of draws and the list of events are the model's choice (assumption log 1, 3). -/
def Obligations.InOutAndHltEmitTheirEvents : Prop :=
  ∀ (s : State) (port : Byte),
    exec (.inPort port) s = .next { s with
      a := Config.inputDraw s.draws port
      draws := s.draws + 1
      events := s.events ++ [.input port] } ∧
    exec (.outPort port) s = .next { s with events := s.events ++ [.out port s.a] } ∧
    exec .hlt s = .next { s with events := s.events ++ [.halt] }

/-- R292, R293: NOP and its seven aliases (`00xxx000`) change nothing. -/
def Obligations.NopsChangeNothing : Prop :=
  ∀ (i : Instr) (s : State), fits i 0xC7 0x00 = true → exec i s = .next s

/-! ## The host -/

/-- R68: a load that fits writes its bytes at the offset upward and changes nothing else; a load
that would pass the end of memory is refused. -/
def Obligations.HostLoadWritesItsBytesOrIsRefused : Prop :=
  ∀ (s : State) (offset : Nat) (bytes : List Byte),
    (offset + bytes.length > 65536 → s.hostLoad offset bytes = none) ∧
    (offset + bytes.length ≤ 65536 →
      ∃ t : State, s.hostLoad offset bytes = some t ∧ t = { s with mem := t.mem } ∧
        ∀ x : Word, t.readByte x =
          if offset ≤ x.toNat ∧ x.toNat < offset + bytes.length then bytes.getD (x.toNat - offset) 0
          else s.readByte x)

/-- R353: a run without edits, watched for `k` steps. Under steps(n) it ends with the state after `n`
steps of the core, and until then is running. Under at_halt it ends exactly with the first step that
emits Halt, and while no step has, is running. Under never it is always running. The watched run is
the model's choice (assumption log 9), as is the list of events that eventsOfStep reads (log 3). -/
def Obligations.EndOfRunIsTheHostsChoice : Prop :=
  ∀ (s : State) (n k : Nat),
    (n ≤ k → ∃ t : State, hostRun k (.steps n) [] s = .ended t ∧ core.run n s = .next t) ∧
    (k < n → ∃ t : State, hostRun k (.steps n) [] s = .running t ∧ core.run k s = .next t) ∧
    (∀ t : State, hostRun k .atHalt [] s = .ended t ↔
      ∃ (j : Nat) (u : State), j < k ∧ core.run j s = .next u ∧ step u = .next t ∧
        eventsOfStep u t = [.halt] ∧
        ∀ (i : Nat) (v w : State), i < j → core.run i s = .next v → step v = .next w →
          eventsOfStep v w ≠ [.halt]) ∧
    ((∀ (i : Nat) (v w : State), i < k → core.run i s = .next v → step v = .next w →
        eventsOfStep v w ≠ [.halt]) →
      ∃ t : State, hostRun k .atHalt [] s = .running t ∧ core.run k s = .next t) ∧
    (∃ t : State, hostRun k .never [] s = .running t ∧ core.run k s = .next t)

/-- R328 (edit), R69: an edit gives its element its value and changes nothing else. -/
def Obligations.HostEditWritesOneElement : Prop :=
  ∀ s : State,
    (∀ v : Byte, s.hostEdit (.reg .a v) = { s with a := v } ∧
      s.hostEdit (.reg .b v) = { s with b := v } ∧ s.hostEdit (.reg .c v) = { s with c := v } ∧
      s.hostEdit (.reg .d v) = { s with d := v } ∧ s.hostEdit (.reg .e v) = { s with e := v } ∧
      s.hostEdit (.reg .h v) = { s with h := v } ∧ s.hostEdit (.reg .l v) = { s with l := v }) ∧
    (∀ v : Word, s.hostEdit (.sp v) = { s with sp := v } ∧ s.hostEdit (.pc v) = { s with pc := v }) ∧
    (∀ f : Flags, s.hostEdit (.flags f) = { s with flags := f }) ∧
    (∀ v : Bool, s.hostEdit (.inte v) = { s with inte := v }) ∧
    (∀ (x y : Word) (v : Byte),
      s.hostEdit (.memory x v) = { s with mem := (s.hostEdit (.memory x v)).mem } ∧
      (s.hostEdit (.memory x v)).readByte y = if y = x then v else s.readByte y)

/-- R328 (edit: "any state, between steps"): the host's edits lead from any state to every state that
agrees with it in the model's own fields (the mode, the events, the draws), and only to states in
canonical form. The form and the three fields are the model's choice (assumption log 1, 2, 3, 4). -/
def Obligations.HostEditsReachEveryState : Prop :=
  (∀ (s : State) (edits : List HostEdit), Inv s → Inv (s.hostEdits edits)) ∧
  ∀ s t : State, Inv s → Inv t → t.auxCarryMode = s.auxCarryMode → t.events = s.events →
    t.draws = s.draws → ∃ edits : List HostEdit, s.hostEdits edits = t

/-- R328 (edit: "an edit takes effect at the next step"), R345: a run in which the host edits once,
after `m` steps, is `m` steps of the core, the edits, and the rest of the steps from the edited
state. The watched run is the model's choice (assumption log 9). -/
def Obligations.HostEditsTakeEffectAtTheNextStep : Prop :=
  ∀ (s : State) (m k : Nat) (edits : List HostEdit), ∃ u t : State,
    core.run m s = .next u ∧ core.run (k + 1) (u.hostEdits edits) = .next t ∧
    hostRun (m + (k + 1)) .never (List.replicate m [] ++ [edits]) s = .running t
end

