-- ==== Sys2Proof/Laws/Decode.lean ====
section
/-! SUPPORT. The opcode table has a row for each of the 256 opcode bytes (30_encoding.md R92), and
what decoding gives for a row of each format. -/

namespace Sys2Proof.Laws

theorem opcodeRows0_length : opcodeRows0.length = 16 := rfl
theorem opcodeRows1_length : opcodeRows1.length = 16 := rfl
theorem opcodeRows2_length : opcodeRows2.length = 16 := rfl
theorem opcodeRows3_length : opcodeRows3.length = 16 := rfl
theorem opcodeRows4_length : opcodeRows4.length = 16 := rfl
theorem opcodeRows5_length : opcodeRows5.length = 16 := rfl
theorem opcodeRows6_length : opcodeRows6.length = 16 := rfl
theorem opcodeRows7_length : opcodeRows7.length = 16 := rfl
theorem opcodeRows8_length : opcodeRows8.length = 16 := rfl
theorem opcodeRows9_length : opcodeRows9.length = 16 := rfl
theorem opcodeRowsA_length : opcodeRowsA.length = 16 := rfl
theorem opcodeRowsB_length : opcodeRowsB.length = 16 := rfl
theorem opcodeRowsC_length : opcodeRowsC.length = 16 := rfl
theorem opcodeRowsD_length : opcodeRowsD.length = 16 := rfl
theorem opcodeRowsE_length : opcodeRowsE.length = 16 := rfl
theorem opcodeRowsF_length : opcodeRowsF.length = 16 := rfl

theorem opcodeTable_length : opcodeTable.length = 256 := by
  simp only [opcodeTable, List.length_append, opcodeRows0_length, opcodeRows1_length, opcodeRows2_length, opcodeRows3_length,
    opcodeRows4_length, opcodeRows5_length, opcodeRows6_length, opcodeRows7_length, opcodeRows8_length,
    opcodeRows9_length, opcodeRowsA_length, opcodeRowsB_length, opcodeRowsC_length, opcodeRowsD_length,
    opcodeRowsE_length, opcodeRowsF_length]

/-- Every opcode byte has a row. -/
theorem exists_opcodeRow (op : Byte) : ∃ row, opcodeTable[op.toNat]? = some row := by
  have h : op.toNat < opcodeTable.length := by
    rw [opcodeTable_length]
    exact op.isLt
  exact ⟨_, List.getElem?_eq_getElem h⟩

variable {op : Byte}

theorem decode_of_f1 {i : Instr} (h : opcodeTable[op.toNat]? = some (.f1 i)) (rest : List Byte) :
    decode (op :: rest) = .ok (i, rest) := by
  simp only [decode, h, applyRow]

theorem decode_of_f2 {mk : Byte → Instr} (h : opcodeTable[op.toNat]? = some (.f2 mk)) (b2 : Byte)
    (rest : List Byte) : decode (op :: b2 :: rest) = .ok (mk b2, rest) := by
  simp only [decode, h, applyRow]

theorem decode_of_f3 {mk : Word → Instr} (h : opcodeTable[op.toNat]? = some (.f3 mk))
    (b2 b3 : Byte) (rest : List Byte) :
    decode (op :: b2 :: b3 :: rest) = .ok (mk (joinBytes b3 b2), rest) := by
  simp only [decode, h, applyRow]

/-- The bytes fetched for an opcode, as many as its length, always decode. -/
theorem decode_take_opcodeLength (op b2 b3 : Byte) :
    ∃ i rest, decode ([op, b2, b3].take (opcodeLength op)) = .ok (i, rest) := by
  obtain ⟨row, h⟩ := exists_opcodeRow op
  cases row <;> simp [decode, opcodeLength, rowLength, h, applyRow]

end Sys2Proof.Laws
end

