-- ==== Sys2Proof/Laws/State.lean ====
section
/-! SUPPORT. What each update of the state does to each field, so that no proof unfolds an update. -/

namespace Sys2Proof.Machine.Laws

variable (s : State)

@[simp] theorem writeByte_a (x : Word) (v : Byte) : (s.writeByte x v).a = s.a := rfl
@[simp] theorem writeByte_b (x : Word) (v : Byte) : (s.writeByte x v).b = s.b := rfl
@[simp] theorem writeByte_c (x : Word) (v : Byte) : (s.writeByte x v).c = s.c := rfl
@[simp] theorem writeByte_d (x : Word) (v : Byte) : (s.writeByte x v).d = s.d := rfl
@[simp] theorem writeByte_e (x : Word) (v : Byte) : (s.writeByte x v).e = s.e := rfl
@[simp] theorem writeByte_h (x : Word) (v : Byte) : (s.writeByte x v).h = s.h := rfl
@[simp] theorem writeByte_l (x : Word) (v : Byte) : (s.writeByte x v).l = s.l := rfl
@[simp] theorem writeByte_sp (x : Word) (v : Byte) : (s.writeByte x v).sp = s.sp := rfl
@[simp] theorem writeByte_pc (x : Word) (v : Byte) : (s.writeByte x v).pc = s.pc := rfl
@[simp] theorem writeByte_flags (x : Word) (v : Byte) : (s.writeByte x v).flags = s.flags := rfl
@[simp] theorem writeByte_inte (x : Word) (v : Byte) : (s.writeByte x v).inte = s.inte := rfl
@[simp] theorem writeByte_mem (x : Word) (v : Byte) : (s.writeByte x v).mem = memStore s.mem x.toNat v := rfl
@[simp] theorem writeByte_auxCarryMode (x : Word) (v : Byte) : (s.writeByte x v).auxCarryMode = s.auxCarryMode := rfl
@[simp] theorem writeByte_events (x : Word) (v : Byte) : (s.writeByte x v).events = s.events := rfl
@[simp] theorem writeByte_draws (x : Word) (v : Byte) : (s.writeByte x v).draws = s.draws := rfl

@[simp] theorem writeWord_a (x : Word) (v : Word) : (s.writeWord x v).a = s.a := rfl
@[simp] theorem writeWord_b (x : Word) (v : Word) : (s.writeWord x v).b = s.b := rfl
@[simp] theorem writeWord_c (x : Word) (v : Word) : (s.writeWord x v).c = s.c := rfl
@[simp] theorem writeWord_d (x : Word) (v : Word) : (s.writeWord x v).d = s.d := rfl
@[simp] theorem writeWord_e (x : Word) (v : Word) : (s.writeWord x v).e = s.e := rfl
@[simp] theorem writeWord_h (x : Word) (v : Word) : (s.writeWord x v).h = s.h := rfl
@[simp] theorem writeWord_l (x : Word) (v : Word) : (s.writeWord x v).l = s.l := rfl
@[simp] theorem writeWord_sp (x : Word) (v : Word) : (s.writeWord x v).sp = s.sp := rfl
@[simp] theorem writeWord_pc (x : Word) (v : Word) : (s.writeWord x v).pc = s.pc := rfl
@[simp] theorem writeWord_flags (x : Word) (v : Word) : (s.writeWord x v).flags = s.flags := rfl
@[simp] theorem writeWord_inte (x : Word) (v : Word) : (s.writeWord x v).inte = s.inte := rfl
@[simp] theorem writeWord_auxCarryMode (x : Word) (v : Word) : (s.writeWord x v).auxCarryMode = s.auxCarryMode := rfl
@[simp] theorem writeWord_events (x : Word) (v : Word) : (s.writeWord x v).events = s.events := rfl
@[simp] theorem writeWord_draws (x : Word) (v : Word) : (s.writeWord x v).draws = s.draws := rfl

@[simp] theorem setBC_a (v : Word) : (s.setBC v).a = s.a := rfl
@[simp] theorem setBC_b (v : Word) : (s.setBC v).b = hiByte v := rfl
@[simp] theorem setBC_c (v : Word) : (s.setBC v).c = loByte v := rfl
@[simp] theorem setBC_d (v : Word) : (s.setBC v).d = s.d := rfl
@[simp] theorem setBC_e (v : Word) : (s.setBC v).e = s.e := rfl
@[simp] theorem setBC_h (v : Word) : (s.setBC v).h = s.h := rfl
@[simp] theorem setBC_l (v : Word) : (s.setBC v).l = s.l := rfl
@[simp] theorem setBC_sp (v : Word) : (s.setBC v).sp = s.sp := rfl
@[simp] theorem setBC_pc (v : Word) : (s.setBC v).pc = s.pc := rfl
@[simp] theorem setBC_flags (v : Word) : (s.setBC v).flags = s.flags := rfl
@[simp] theorem setBC_inte (v : Word) : (s.setBC v).inte = s.inte := rfl
@[simp] theorem setBC_mem (v : Word) : (s.setBC v).mem = s.mem := rfl
@[simp] theorem setBC_auxCarryMode (v : Word) : (s.setBC v).auxCarryMode = s.auxCarryMode := rfl
@[simp] theorem setBC_events (v : Word) : (s.setBC v).events = s.events := rfl
@[simp] theorem setBC_draws (v : Word) : (s.setBC v).draws = s.draws := rfl

@[simp] theorem setDE_a (v : Word) : (s.setDE v).a = s.a := rfl
@[simp] theorem setDE_b (v : Word) : (s.setDE v).b = s.b := rfl
@[simp] theorem setDE_c (v : Word) : (s.setDE v).c = s.c := rfl
@[simp] theorem setDE_d (v : Word) : (s.setDE v).d = hiByte v := rfl
@[simp] theorem setDE_e (v : Word) : (s.setDE v).e = loByte v := rfl
@[simp] theorem setDE_h (v : Word) : (s.setDE v).h = s.h := rfl
@[simp] theorem setDE_l (v : Word) : (s.setDE v).l = s.l := rfl
@[simp] theorem setDE_sp (v : Word) : (s.setDE v).sp = s.sp := rfl
@[simp] theorem setDE_pc (v : Word) : (s.setDE v).pc = s.pc := rfl
@[simp] theorem setDE_flags (v : Word) : (s.setDE v).flags = s.flags := rfl
@[simp] theorem setDE_inte (v : Word) : (s.setDE v).inte = s.inte := rfl
@[simp] theorem setDE_mem (v : Word) : (s.setDE v).mem = s.mem := rfl
@[simp] theorem setDE_auxCarryMode (v : Word) : (s.setDE v).auxCarryMode = s.auxCarryMode := rfl
@[simp] theorem setDE_events (v : Word) : (s.setDE v).events = s.events := rfl
@[simp] theorem setDE_draws (v : Word) : (s.setDE v).draws = s.draws := rfl

@[simp] theorem setHL_a (v : Word) : (s.setHL v).a = s.a := rfl
@[simp] theorem setHL_b (v : Word) : (s.setHL v).b = s.b := rfl
@[simp] theorem setHL_c (v : Word) : (s.setHL v).c = s.c := rfl
@[simp] theorem setHL_d (v : Word) : (s.setHL v).d = s.d := rfl
@[simp] theorem setHL_e (v : Word) : (s.setHL v).e = s.e := rfl
@[simp] theorem setHL_h (v : Word) : (s.setHL v).h = hiByte v := rfl
@[simp] theorem setHL_l (v : Word) : (s.setHL v).l = loByte v := rfl
@[simp] theorem setHL_sp (v : Word) : (s.setHL v).sp = s.sp := rfl
@[simp] theorem setHL_pc (v : Word) : (s.setHL v).pc = s.pc := rfl
@[simp] theorem setHL_flags (v : Word) : (s.setHL v).flags = s.flags := rfl
@[simp] theorem setHL_inte (v : Word) : (s.setHL v).inte = s.inte := rfl
@[simp] theorem setHL_mem (v : Word) : (s.setHL v).mem = s.mem := rfl
@[simp] theorem setHL_auxCarryMode (v : Word) : (s.setHL v).auxCarryMode = s.auxCarryMode := rfl
@[simp] theorem setHL_events (v : Word) : (s.setHL v).events = s.events := rfl
@[simp] theorem setHL_draws (v : Word) : (s.setHL v).draws = s.draws := rfl

@[simp] theorem setCarry_a (v : Bool) : (s.setCarry v).a = s.a := rfl
@[simp] theorem setCarry_b (v : Bool) : (s.setCarry v).b = s.b := rfl
@[simp] theorem setCarry_c (v : Bool) : (s.setCarry v).c = s.c := rfl
@[simp] theorem setCarry_d (v : Bool) : (s.setCarry v).d = s.d := rfl
@[simp] theorem setCarry_e (v : Bool) : (s.setCarry v).e = s.e := rfl
@[simp] theorem setCarry_h (v : Bool) : (s.setCarry v).h = s.h := rfl
@[simp] theorem setCarry_l (v : Bool) : (s.setCarry v).l = s.l := rfl
@[simp] theorem setCarry_sp (v : Bool) : (s.setCarry v).sp = s.sp := rfl
@[simp] theorem setCarry_pc (v : Bool) : (s.setCarry v).pc = s.pc := rfl
@[simp] theorem setCarry_flags (v : Bool) : (s.setCarry v).flags = { s.flags with cy := v } := rfl
@[simp] theorem setCarry_inte (v : Bool) : (s.setCarry v).inte = s.inte := rfl
@[simp] theorem setCarry_mem (v : Bool) : (s.setCarry v).mem = s.mem := rfl
@[simp] theorem setCarry_auxCarryMode (v : Bool) : (s.setCarry v).auxCarryMode = s.auxCarryMode := rfl
@[simp] theorem setCarry_events (v : Bool) : (s.setCarry v).events = s.events := rfl
@[simp] theorem setCarry_draws (v : Bool) : (s.setCarry v).draws = s.draws := rfl

@[simp] theorem push16_a (v : Word) : (s.push16 v).a = s.a := rfl
@[simp] theorem push16_b (v : Word) : (s.push16 v).b = s.b := rfl
@[simp] theorem push16_c (v : Word) : (s.push16 v).c = s.c := rfl
@[simp] theorem push16_d (v : Word) : (s.push16 v).d = s.d := rfl
@[simp] theorem push16_e (v : Word) : (s.push16 v).e = s.e := rfl
@[simp] theorem push16_h (v : Word) : (s.push16 v).h = s.h := rfl
@[simp] theorem push16_l (v : Word) : (s.push16 v).l = s.l := rfl
@[simp] theorem push16_sp (v : Word) : (s.push16 v).sp = s.sp - 2 := rfl
@[simp] theorem push16_pc (v : Word) : (s.push16 v).pc = s.pc := rfl
@[simp] theorem push16_flags (v : Word) : (s.push16 v).flags = s.flags := rfl
@[simp] theorem push16_inte (v : Word) : (s.push16 v).inte = s.inte := rfl
@[simp] theorem push16_auxCarryMode (v : Word) : (s.push16 v).auxCarryMode = s.auxCarryMode := rfl
@[simp] theorem push16_events (v : Word) : (s.push16 v).events = s.events := rfl
@[simp] theorem push16_draws (v : Word) : (s.push16 v).draws = s.draws := rfl

@[simp] theorem dropTop_a : (s.dropTop).a = s.a := rfl
@[simp] theorem dropTop_b : (s.dropTop).b = s.b := rfl
@[simp] theorem dropTop_c : (s.dropTop).c = s.c := rfl
@[simp] theorem dropTop_d : (s.dropTop).d = s.d := rfl
@[simp] theorem dropTop_e : (s.dropTop).e = s.e := rfl
@[simp] theorem dropTop_h : (s.dropTop).h = s.h := rfl
@[simp] theorem dropTop_l : (s.dropTop).l = s.l := rfl
@[simp] theorem dropTop_sp : (s.dropTop).sp = s.sp + 2 := rfl
@[simp] theorem dropTop_pc : (s.dropTop).pc = s.pc := rfl
@[simp] theorem dropTop_flags : (s.dropTop).flags = s.flags := rfl
@[simp] theorem dropTop_inte : (s.dropTop).inte = s.inte := rfl
@[simp] theorem dropTop_mem : (s.dropTop).mem = s.mem := rfl
@[simp] theorem dropTop_auxCarryMode : (s.dropTop).auxCarryMode = s.auxCarryMode := rfl
@[simp] theorem dropTop_events : (s.dropTop).events = s.events := rfl
@[simp] theorem dropTop_draws : (s.dropTop).draws = s.draws := rfl

@[simp] theorem jump_a (v : Word) : (s.jump v).a = s.a := rfl
@[simp] theorem jump_b (v : Word) : (s.jump v).b = s.b := rfl
@[simp] theorem jump_c (v : Word) : (s.jump v).c = s.c := rfl
@[simp] theorem jump_d (v : Word) : (s.jump v).d = s.d := rfl
@[simp] theorem jump_e (v : Word) : (s.jump v).e = s.e := rfl
@[simp] theorem jump_h (v : Word) : (s.jump v).h = s.h := rfl
@[simp] theorem jump_l (v : Word) : (s.jump v).l = s.l := rfl
@[simp] theorem jump_sp (v : Word) : (s.jump v).sp = s.sp := rfl
@[simp] theorem jump_pc (v : Word) : (s.jump v).pc = v := rfl
@[simp] theorem jump_flags (v : Word) : (s.jump v).flags = s.flags := rfl
@[simp] theorem jump_inte (v : Word) : (s.jump v).inte = s.inte := rfl
@[simp] theorem jump_mem (v : Word) : (s.jump v).mem = s.mem := rfl
@[simp] theorem jump_auxCarryMode (v : Word) : (s.jump v).auxCarryMode = s.auxCarryMode := rfl
@[simp] theorem jump_events (v : Word) : (s.jump v).events = s.events := rfl
@[simp] theorem jump_draws (v : Word) : (s.jump v).draws = s.draws := rfl

@[simp] theorem advancePc_a (n : Nat) : (s.advancePc n).a = s.a := rfl
@[simp] theorem advancePc_b (n : Nat) : (s.advancePc n).b = s.b := rfl
@[simp] theorem advancePc_c (n : Nat) : (s.advancePc n).c = s.c := rfl
@[simp] theorem advancePc_d (n : Nat) : (s.advancePc n).d = s.d := rfl
@[simp] theorem advancePc_e (n : Nat) : (s.advancePc n).e = s.e := rfl
@[simp] theorem advancePc_h (n : Nat) : (s.advancePc n).h = s.h := rfl
@[simp] theorem advancePc_l (n : Nat) : (s.advancePc n).l = s.l := rfl
@[simp] theorem advancePc_sp (n : Nat) : (s.advancePc n).sp = s.sp := rfl
@[simp] theorem advancePc_pc (n : Nat) : (s.advancePc n).pc = s.pc + BitVec.ofNat 16 n := rfl
@[simp] theorem advancePc_flags (n : Nat) : (s.advancePc n).flags = s.flags := rfl
@[simp] theorem advancePc_inte (n : Nat) : (s.advancePc n).inte = s.inte := rfl
@[simp] theorem advancePc_mem (n : Nat) : (s.advancePc n).mem = s.mem := rfl
@[simp] theorem advancePc_auxCarryMode (n : Nat) : (s.advancePc n).auxCarryMode = s.auxCarryMode := rfl
@[simp] theorem advancePc_events (n : Nat) : (s.advancePc n).events = s.events := rfl
@[simp] theorem advancePc_draws (n : Nat) : (s.advancePc n).draws = s.draws := rfl

@[simp] theorem emit_a (x : Event) : (s.emit x).a = s.a := rfl
@[simp] theorem emit_b (x : Event) : (s.emit x).b = s.b := rfl
@[simp] theorem emit_c (x : Event) : (s.emit x).c = s.c := rfl
@[simp] theorem emit_d (x : Event) : (s.emit x).d = s.d := rfl
@[simp] theorem emit_e (x : Event) : (s.emit x).e = s.e := rfl
@[simp] theorem emit_h (x : Event) : (s.emit x).h = s.h := rfl
@[simp] theorem emit_l (x : Event) : (s.emit x).l = s.l := rfl
@[simp] theorem emit_sp (x : Event) : (s.emit x).sp = s.sp := rfl
@[simp] theorem emit_pc (x : Event) : (s.emit x).pc = s.pc := rfl
@[simp] theorem emit_flags (x : Event) : (s.emit x).flags = s.flags := rfl
@[simp] theorem emit_inte (x : Event) : (s.emit x).inte = s.inte := rfl
@[simp] theorem emit_mem (x : Event) : (s.emit x).mem = s.mem := rfl
@[simp] theorem emit_auxCarryMode (x : Event) : (s.emit x).auxCarryMode = s.auxCarryMode := rfl
@[simp] theorem emit_events (x : Event) : (s.emit x).events = s.events ++ [x] := rfl
@[simp] theorem emit_draws (x : Event) : (s.emit x).draws = s.draws := rfl

@[simp] theorem setReg_sp (x : Reg) (v : Byte) : (s.setReg x v).sp = s.sp := by cases x <;> rfl
@[simp] theorem setReg_pc (x : Reg) (v : Byte) : (s.setReg x v).pc = s.pc := by cases x <;> rfl
@[simp] theorem setReg_flags (x : Reg) (v : Byte) : (s.setReg x v).flags = s.flags := by cases x <;> rfl
@[simp] theorem setReg_inte (x : Reg) (v : Byte) : (s.setReg x v).inte = s.inte := by cases x <;> rfl
@[simp] theorem setReg_mem (x : Reg) (v : Byte) : (s.setReg x v).mem = s.mem := by cases x <;> rfl
@[simp] theorem setReg_auxCarryMode (x : Reg) (v : Byte) : (s.setReg x v).auxCarryMode = s.auxCarryMode := by cases x <;> rfl
@[simp] theorem setReg_events (x : Reg) (v : Byte) : (s.setReg x v).events = s.events := by cases x <;> rfl
@[simp] theorem setReg_draws (x : Reg) (v : Byte) : (s.setReg x v).draws = s.draws := by cases x <;> rfl

@[simp] theorem setOp_sp (x : Sel) (v : Byte) : (s.setOp x v).sp = s.sp := by cases x <;> rfl
@[simp] theorem setOp_pc (x : Sel) (v : Byte) : (s.setOp x v).pc = s.pc := by cases x <;> rfl
@[simp] theorem setOp_flags (x : Sel) (v : Byte) : (s.setOp x v).flags = s.flags := by cases x <;> rfl
@[simp] theorem setOp_inte (x : Sel) (v : Byte) : (s.setOp x v).inte = s.inte := by cases x <;> rfl
@[simp] theorem setOp_auxCarryMode (x : Sel) (v : Byte) : (s.setOp x v).auxCarryMode = s.auxCarryMode := by cases x <;> rfl
@[simp] theorem setOp_events (x : Sel) (v : Byte) : (s.setOp x v).events = s.events := by cases x <;> rfl
@[simp] theorem setOp_draws (x : Sel) (v : Byte) : (s.setOp x v).draws = s.draws := by cases x <;> rfl

@[simp] theorem setRP_pc (p : Pair) (v : Word) : (s.setRP p v).pc = s.pc := by cases p <;> rfl
@[simp] theorem setRP_flags (p : Pair) (v : Word) : (s.setRP p v).flags = s.flags := by cases p <;> rfl
@[simp] theorem setRP_inte (p : Pair) (v : Word) : (s.setRP p v).inte = s.inte := by cases p <;> rfl
@[simp] theorem setRP_mem (p : Pair) (v : Word) : (s.setRP p v).mem = s.mem := by cases p <;> rfl
@[simp] theorem setRP_auxCarryMode (p : Pair) (v : Word) : (s.setRP p v).auxCarryMode = s.auxCarryMode := by cases p <;> rfl
@[simp] theorem setRP_events (p : Pair) (v : Word) : (s.setRP p v).events = s.events := by cases p <;> rfl
@[simp] theorem setRP_draws (p : Pair) (v : Word) : (s.setRP p v).draws = s.draws := by cases p <;> rfl

@[simp] theorem setRPpsw_sp (p : StackPair) (v : Word) : (s.setRPpsw p v).sp = s.sp := by cases p <;> rfl
@[simp] theorem setRPpsw_pc (p : StackPair) (v : Word) : (s.setRPpsw p v).pc = s.pc := by cases p <;> rfl
@[simp] theorem setRPpsw_inte (p : StackPair) (v : Word) : (s.setRPpsw p v).inte = s.inte := by cases p <;> rfl
@[simp] theorem setRPpsw_mem (p : StackPair) (v : Word) : (s.setRPpsw p v).mem = s.mem := by cases p <;> rfl
@[simp] theorem setRPpsw_auxCarryMode (p : StackPair) (v : Word) : (s.setRPpsw p v).auxCarryMode = s.auxCarryMode := by cases p <;> rfl
@[simp] theorem setRPpsw_events (p : StackPair) (v : Word) : (s.setRPpsw p v).events = s.events := by cases p <;> rfl
@[simp] theorem setRPpsw_draws (p : StackPair) (v : Word) : (s.setRPpsw p v).draws = s.draws := by cases p <;> rfl

/-- Writing a register and reading one. -/
@[simp] theorem getReg_setReg (r q : Reg) (v : Byte) :
    (s.setReg r v).getReg q = if q = r then v else s.getReg q := by
  cases r <;> cases q <;> rfl

end Sys2Proof.Machine.Laws
end

