-- ==== Sys2Proof/Laws/Memory.lean ====
section
/-! SUPPORT. Memory: a read after a write, and the canonical form that every operation keeps. -/

namespace Sys2Proof.Machine.Laws

theorem memErase_cons (k x : Nat) (v : Byte) (rest : List Host.Cell) :
    memErase ((k, v) :: rest) x =
      if k = x then memErase rest x else (k, v) :: memErase rest x := by
  by_cases hk : k = x <;> simp [memErase, hk]

theorem memLookup_cons (k y : Nat) (v : Byte) (rest : List Host.Cell) :
    memLookup ((k, v) :: rest) y = if k = y then v else memLookup rest y := rfl

theorem memLookup_memErase (m : List Host.Cell) (x y : Nat) :
    memLookup (memErase m x) y = if y = x then 0x00 else memLookup m y := by
  induction m with
  | nil => by_cases hy : y = x <;> simp [memErase, memLookup, hy]
  | cons c rest ih =>
    obtain ⟨k, v⟩ := c
    rw [memErase_cons, memLookup_cons]
    by_cases hk : k = x
    · rw [if_pos hk, ih]
      by_cases hy : y = x
      · rw [if_pos hy, if_pos hy]
      · rw [if_neg hy, if_neg hy, if_neg fun e => hy (e.symm.trans hk)]
    · rw [if_neg hk, memLookup_cons, ih]
      by_cases hy : k = y
      · rw [if_pos hy, if_pos hy, if_neg fun e => hk (hy.trans e)]
      · rw [if_neg hy, if_neg hy]

theorem memInsert_cons (k x : Nat) (v w : Byte) (rest : List Host.Cell) :
    memInsert x v ((k, w) :: rest) =
      if k < x then (k, w) :: memInsert x v rest else (x, v) :: (k, w) :: rest := rfl

theorem memLookup_memInsert (m : List Host.Cell) (x y : Nat) (v : Byte)
    (h : ∀ c ∈ m, c.1 ≠ x) :
    memLookup (memInsert x v m) y = if y = x then v else memLookup m y := by
  induction m with
  | nil =>
    rw [memInsert, memLookup_cons]
    by_cases hy : y = x
    · rw [if_pos hy, if_pos hy.symm]
    · rw [if_neg hy, if_neg fun e => hy e.symm]
  | cons c rest ih =>
    obtain ⟨k, w⟩ := c
    have hk : k ≠ x := h (k, w) (by simp)
    have ih' := ih fun c hc => h c (by simp [hc])
    rw [memInsert_cons]
    by_cases hlt : k < x
    · rw [if_pos hlt, memLookup_cons, memLookup_cons, ih']
      by_cases hy : k = y
      · rw [if_pos hy, if_pos hy, if_neg fun e => hk (hy.trans e)]
      · rw [if_neg hy, if_neg hy]
    · rw [if_neg hlt, memLookup_cons]
      by_cases hy : y = x
      · rw [if_pos hy, if_pos hy.symm]
      · rw [if_neg hy, if_neg fun e => hy e.symm]

theorem not_mem_memErase (m : List Host.Cell) (x : Nat) : ∀ c ∈ memErase m x, c.1 ≠ x := by
  intro c hc
  simpa [memErase] using (List.mem_filter.mp hc).2

/-- A byte stored is the byte looked up there, and every other byte is as before, whatever the form
of the list. -/
theorem memLookup_memStore (m : List Host.Cell) (x y : Nat) (v : Byte) :
    memLookup (memStore m x v) y = if y = x then v else memLookup m y := by
  unfold memStore
  by_cases hv : v = 0x00
  · rw [if_pos hv, memLookup_memErase, hv]
  · rw [if_neg hv, memLookup_memInsert _ _ _ _ (not_mem_memErase m x),
      memLookup_memErase]
    by_cases hy : y = x <;> simp [hy]

/-- A read of one byte after a write of one byte. -/
theorem readByte_writeByte (s : State) (x y : Word) (v : Byte) :
    (s.writeByte x v).readByte y = if y = x then v else s.readByte y := by
  simp only [State.readByte, writeByte_mem, memLookup_memStore, BitVec.toNat_inj]

/-! The canonical form. -/

theorem memWellFormedFrom_mono {lo lo' : Nat} (h : lo ≤ lo') (m : List Host.Cell)
    (hm : memWellFormedFrom lo' m = true) : memWellFormedFrom lo m = true := by
  cases m with
  | nil => rfl
  | cons c rest =>
    obtain ⟨k, v⟩ := c
    simp only [memWellFormedFrom, Bool.and_eq_true, decide_eq_true_eq] at hm ⊢
    exact ⟨⟨le_trans h hm.1.1, hm.1.2⟩, hm.2⟩

theorem memErase_wellFormedFrom (x : Nat) (m : List Host.Cell) :
    ∀ lo, memWellFormedFrom lo m = true → memWellFormedFrom lo (memErase m x) = true := by
  induction m with
  | nil => intro lo _; rfl
  | cons c rest ih =>
    obtain ⟨k, v⟩ := c
    intro lo hm
    simp only [memWellFormedFrom, Bool.and_eq_true, decide_eq_true_eq] at hm
    rw [memErase_cons]
    by_cases hk : k = x
    · rw [if_pos hk]
      exact memWellFormedFrom_mono (Nat.le_succ_of_le hm.1.1) _ (ih _ hm.2)
    · rw [if_neg hk]
      simp only [memWellFormedFrom, Bool.and_eq_true, decide_eq_true_eq]
      exact ⟨hm.1, ih _ hm.2⟩

theorem memInsert_wellFormedFrom {x : Nat} {v : Byte} (hx : x < 65536) (hv : v ≠ 0x00)
    (m : List Host.Cell) (h : ∀ c ∈ m, c.1 ≠ x) :
    ∀ lo, lo ≤ x → memWellFormedFrom lo m = true →
      memWellFormedFrom lo (memInsert x v m) = true := by
  induction m with
  | nil =>
    intro lo hlo _
    simp only [memInsert, memWellFormedFrom, Bool.and_true, decide_eq_true_eq]
    exact ⟨hlo, hx, hv⟩
  | cons c rest ih =>
    obtain ⟨k, w⟩ := c
    intro lo hlo hm
    have hk : k ≠ x := h (k, w) (by simp)
    simp only [memWellFormedFrom, Bool.and_eq_true, decide_eq_true_eq] at hm
    by_cases hlt : k < x
    · simp only [memInsert, hlt, if_true, memWellFormedFrom, Bool.and_eq_true, decide_eq_true_eq]
      exact ⟨hm.1, ih (fun c hc => h c (by simp [hc])) _ hlt hm.2⟩
    · simp only [memInsert, hlt, if_false, memWellFormedFrom, Bool.and_eq_true, decide_eq_true_eq]
      exact ⟨⟨hlo, hx, hv⟩, ⟨by omega, hm.1.2⟩, hm.2⟩

theorem memStore_wf {m : List Host.Cell} {x : Nat} (v : Byte) (hx : x < 65536)
    (hm : Memory.wf m = true) : Memory.wf (memStore m x v) = true := by
  unfold memStore
  split
  · exact memErase_wellFormedFrom x m 0 hm
  · next hv =>
    exact memInsert_wellFormedFrom hx hv _ (not_mem_memErase m x) 0 (Nat.zero_le x)
      (memErase_wellFormedFrom x m 0 hm)

theorem writeByte_wf {s : State} (x : Word) (v : Byte) (hm : Memory.wf s.mem = true) :
    Memory.wf (s.writeByte x v).mem = true :=
  memStore_wf v x.isLt hm

theorem writeWord_wf {s : State} (x v : Word) (hm : Memory.wf s.mem = true) :
    Memory.wf (s.writeWord x v).mem = true :=
  writeByte_wf _ _ (writeByte_wf _ _ hm)

theorem push16_wf {s : State} (v : Word) (hm : Memory.wf s.mem = true) :
    Memory.wf (s.push16 v).mem = true := by
  have h := writeByte_wf (s.sp - 2) (loByte v) (writeByte_wf (s := s) (s.sp - 1) (hiByte v) hm)
  exact h

theorem setOp_wf {s : State} (x : Sel) (v : Byte) (hm : Memory.wf s.mem = true) :
    Memory.wf (s.setOp x v).mem = true := by
  cases x
  case m => exact writeByte_wf s.hl v hm
  all_goals exact hm

theorem writeBytesAt_wf (bytes : List Byte) : ∀ (m : List Host.Cell) (x : Nat),
    x + bytes.length ≤ 65536 → Memory.wf m = true → Memory.wf (writeBytesAt m x bytes) = true := by
  induction bytes with
  | nil => intro m x _ hm; exact hm
  | cons v rest ih =>
    intro m x hx hm
    simp only [List.length_cons] at hx
    exact ih _ _ (by omega) (memStore_wf v (by omega) hm)

end Sys2Proof.Machine.Laws
end

