-- ==== Sys2Proof/Laws/Ops.lean ====
section
/-! SUPPORT. One lemma for each shared operation, saying what it does to memory or which of its cases
it takes, and the encoder's byte-order helpers. -/

namespace Sys2Proof.Machine.Laws

/-! Byte order. -/

theorem joinBytes_toNat (hi lo : Byte) : (joinBytes hi lo).toNat = hi.toNat * 256 + lo.toNat := by
  have h : (joinBytes hi lo).toNat = hi.toNat <<< 8 ||| lo.toNat := BitVec.toNat_append hi lo
  rw [h, ← Nat.shiftLeft_add_eq_or_of_lt lo.isLt, Nat.shiftLeft_eq]

theorem hiByte_toNat (w : Word) : (hiByte w).toNat = w.toNat / 256 := by
  have := w.isLt
  simp only [hiByte, BitVec.extractLsb'_toNat, Nat.shiftRight_eq_div_pow]
  omega

theorem loByte_toNat (w : Word) : (loByte w).toNat = w.toNat % 256 := by
  simp [loByte]

@[simp] theorem hiByte_joinBytes (hi lo : Byte) : hiByte (joinBytes hi lo) = hi := by
  apply BitVec.eq_of_toNat_eq
  rw [hiByte_toNat, joinBytes_toNat]
  omega

@[simp] theorem loByte_joinBytes (hi lo : Byte) : loByte (joinBytes hi lo) = lo := by
  apply BitVec.eq_of_toNat_eq
  rw [loByte_toNat, joinBytes_toNat]
  omega

@[simp] theorem joinBytes_hiByte_loByte (w : Word) : joinBytes (hiByte w) (loByte w) = w := by
  apply BitVec.eq_of_toNat_eq
  rw [joinBytes_toNat, hiByte_toNat, loByte_toNat]
  omega

/-! Memory beyond one byte. -/

theorem word_ne_add_one (x : Word) : x + 1 ≠ x := by
  bv_omega

theorem word_sub_two_ne_sub_one (x : Word) : x - 2 ≠ x - 1 := by
  bv_omega

theorem word_sub_two_add_one (x : Word) : x - 2 + 1 = x - 1 := by
  bv_omega

theorem word_sub_two_add_two (x : Word) : x - 2 + 2 = x := by
  bv_omega

theorem readByte_writeWord (s : State) (x y v : Word) :
    (s.writeWord x v).readByte y =
      if y = x + 1 then hiByte v else if y = x then loByte v else s.readByte y := by
  rw [State.writeWord, readByte_writeByte, readByte_writeByte]

theorem readByte_congr {s t : State} (h : t.mem = s.mem) (x : Word) : t.readByte x = s.readByte x := by
  simp only [State.readByte, h]

theorem readByte_push16 (s : State) (v y : Word) :
    (s.push16 v).readByte y =
      if y = s.sp - 2 then loByte v else if y = s.sp - 1 then hiByte v else s.readByte y := by
  have h : (s.push16 v).mem =
      ((s.writeByte (s.sp - 1) (hiByte v)).writeByte (s.sp - 2) (loByte v)).mem := rfl
  rw [readByte_congr h, readByte_writeByte, readByte_writeByte]

theorem readByte_setOp (s : State) (x : Sel) (v : Byte) (y : Word) :
    (s.setOp x v).readByte y = if x = .m ∧ y = s.hl then v else s.readByte y := by
  cases x
  case m =>
    have h : s.setOp .m v = s.writeByte s.hl v := rfl
    rw [h, readByte_writeByte]
    simp
  all_goals rfl

/-- `pop16` after `push16` with no write between returns the value (R134). -/
theorem topOfStack_push16 (s : State) (v : Word) : (s.push16 v).topOfStack = v := by
  have hne : s.sp - 1 ≠ s.sp - 2 := fun e => word_sub_two_ne_sub_one s.sp e.symm
  rw [State.topOfStack, readByte_push16, readByte_push16, push16_sp, word_sub_two_add_one, if_neg hne, if_pos rfl,
    if_pos rfl, joinBytes_hiByte_loByte]

/-! Conditional operations: what each does when its condition holds, and when it does not. -/

theorem jumpIf_eq (ccc : Cond) (x : Word) (s : State) :
    jumpIf ccc x s = { s with pc := if condHolds ccc s.flags then x else s.pc } := by
  unfold jumpIf
  split <;> rfl

theorem callIf_of_holds {ccc : Cond} {s : State} (x : Word) (h : condHolds ccc s.flags = true) :
    callIf ccc x s = s.call x := if_pos h

theorem callIf_of_not {ccc : Cond} {s : State} (x : Word) (h : condHolds ccc s.flags = false) :
    callIf ccc x s = s := if_neg (by simp [h])

theorem retIf_of_holds {ccc : Cond} {s : State} (h : condHolds ccc s.flags = true) :
    retIf ccc s = s.ret := if_pos h

theorem retIf_of_not {ccc : Cond} {s : State} (h : condHolds ccc s.flags = false) :
    retIf ccc s = s := if_neg (by simp [h])

end Sys2Proof.Machine.Laws
end

