-- ==== Sys2Proof/Laws/Encoding.lean ====
section
/-! SUPPORT. The opcode byte and the operand of each instruction that carries an operand, so that a
proof over all instructions evaluates their opcode fields without unfolding the encoder. -/

namespace Sys2Proof.Machine.Laws

@[simp] theorem opcode_lxiB (x : Word) : (Instr.lxiB x).opcode = 0x01 := rfl
@[simp] theorem opcode_mviB (x : Byte) : (Instr.mviB x).opcode = 0x06 := rfl
@[simp] theorem opcode_mviC (x : Byte) : (Instr.mviC x).opcode = 0x0E := rfl
@[simp] theorem opcode_lxiD (x : Word) : (Instr.lxiD x).opcode = 0x11 := rfl
@[simp] theorem opcode_mviD (x : Byte) : (Instr.mviD x).opcode = 0x16 := rfl
@[simp] theorem opcode_mviE (x : Byte) : (Instr.mviE x).opcode = 0x1E := rfl
@[simp] theorem opcode_lxiH (x : Word) : (Instr.lxiH x).opcode = 0x21 := rfl
@[simp] theorem opcode_shld (x : Word) : (Instr.shld x).opcode = 0x22 := rfl
@[simp] theorem opcode_mviH (x : Byte) : (Instr.mviH x).opcode = 0x26 := rfl
@[simp] theorem opcode_lhld (x : Word) : (Instr.lhld x).opcode = 0x2A := rfl
@[simp] theorem opcode_mviL (x : Byte) : (Instr.mviL x).opcode = 0x2E := rfl
@[simp] theorem opcode_lxiSP (x : Word) : (Instr.lxiSP x).opcode = 0x31 := rfl
@[simp] theorem opcode_sta (x : Word) : (Instr.sta x).opcode = 0x32 := rfl
@[simp] theorem opcode_mviM (x : Byte) : (Instr.mviM x).opcode = 0x36 := rfl
@[simp] theorem opcode_lda (x : Word) : (Instr.lda x).opcode = 0x3A := rfl
@[simp] theorem opcode_mviA (x : Byte) : (Instr.mviA x).opcode = 0x3E := rfl
@[simp] theorem opcode_jnz (x : Word) : (Instr.jnz x).opcode = 0xC2 := rfl
@[simp] theorem opcode_jmp (x : Word) : (Instr.jmp x).opcode = 0xC3 := rfl
@[simp] theorem opcode_cnz (x : Word) : (Instr.cnz x).opcode = 0xC4 := rfl
@[simp] theorem opcode_adi (x : Byte) : (Instr.adi x).opcode = 0xC6 := rfl
@[simp] theorem opcode_jz (x : Word) : (Instr.jz x).opcode = 0xCA := rfl
@[simp] theorem opcode_jmpCB (x : Word) : (Instr.jmpCB x).opcode = 0xCB := rfl
@[simp] theorem opcode_cz (x : Word) : (Instr.cz x).opcode = 0xCC := rfl
@[simp] theorem opcode_call (x : Word) : (Instr.call x).opcode = 0xCD := rfl
@[simp] theorem opcode_aci (x : Byte) : (Instr.aci x).opcode = 0xCE := rfl
@[simp] theorem opcode_jnc (x : Word) : (Instr.jnc x).opcode = 0xD2 := rfl
@[simp] theorem opcode_outPort (x : Byte) : (Instr.outPort x).opcode = 0xD3 := rfl
@[simp] theorem opcode_cnc (x : Word) : (Instr.cnc x).opcode = 0xD4 := rfl
@[simp] theorem opcode_sui (x : Byte) : (Instr.sui x).opcode = 0xD6 := rfl
@[simp] theorem opcode_jc (x : Word) : (Instr.jc x).opcode = 0xDA := rfl
@[simp] theorem opcode_inPort (x : Byte) : (Instr.inPort x).opcode = 0xDB := rfl
@[simp] theorem opcode_cc (x : Word) : (Instr.cc x).opcode = 0xDC := rfl
@[simp] theorem opcode_callDD (x : Word) : (Instr.callDD x).opcode = 0xDD := rfl
@[simp] theorem opcode_sbi (x : Byte) : (Instr.sbi x).opcode = 0xDE := rfl
@[simp] theorem opcode_jpo (x : Word) : (Instr.jpo x).opcode = 0xE2 := rfl
@[simp] theorem opcode_cpo (x : Word) : (Instr.cpo x).opcode = 0xE4 := rfl
@[simp] theorem opcode_ani (x : Byte) : (Instr.ani x).opcode = 0xE6 := rfl
@[simp] theorem opcode_jpe (x : Word) : (Instr.jpe x).opcode = 0xEA := rfl
@[simp] theorem opcode_cpe (x : Word) : (Instr.cpe x).opcode = 0xEC := rfl
@[simp] theorem opcode_callED (x : Word) : (Instr.callED x).opcode = 0xED := rfl
@[simp] theorem opcode_xri (x : Byte) : (Instr.xri x).opcode = 0xEE := rfl
@[simp] theorem opcode_jp (x : Word) : (Instr.jp x).opcode = 0xF2 := rfl
@[simp] theorem opcode_cp (x : Word) : (Instr.cp x).opcode = 0xF4 := rfl
@[simp] theorem opcode_ori (x : Byte) : (Instr.ori x).opcode = 0xF6 := rfl
@[simp] theorem opcode_jm (x : Word) : (Instr.jm x).opcode = 0xFA := rfl
@[simp] theorem opcode_cm (x : Word) : (Instr.cm x).opcode = 0xFC := rfl
@[simp] theorem opcode_callFD (x : Word) : (Instr.callFD x).opcode = 0xFD := rfl
@[simp] theorem opcode_cpi (x : Byte) : (Instr.cpi x).opcode = 0xFE := rfl

@[simp] theorem imm8_mviB (x : Byte) : (Instr.mviB x).imm8 = x := rfl
@[simp] theorem imm8_mviC (x : Byte) : (Instr.mviC x).imm8 = x := rfl
@[simp] theorem imm8_mviD (x : Byte) : (Instr.mviD x).imm8 = x := rfl
@[simp] theorem imm8_mviE (x : Byte) : (Instr.mviE x).imm8 = x := rfl
@[simp] theorem imm8_mviH (x : Byte) : (Instr.mviH x).imm8 = x := rfl
@[simp] theorem imm8_mviL (x : Byte) : (Instr.mviL x).imm8 = x := rfl
@[simp] theorem imm8_mviM (x : Byte) : (Instr.mviM x).imm8 = x := rfl
@[simp] theorem imm8_mviA (x : Byte) : (Instr.mviA x).imm8 = x := rfl
@[simp] theorem imm8_adi (x : Byte) : (Instr.adi x).imm8 = x := rfl
@[simp] theorem imm8_aci (x : Byte) : (Instr.aci x).imm8 = x := rfl
@[simp] theorem imm8_outPort (x : Byte) : (Instr.outPort x).imm8 = x := rfl
@[simp] theorem imm8_sui (x : Byte) : (Instr.sui x).imm8 = x := rfl
@[simp] theorem imm8_inPort (x : Byte) : (Instr.inPort x).imm8 = x := rfl
@[simp] theorem imm8_sbi (x : Byte) : (Instr.sbi x).imm8 = x := rfl
@[simp] theorem imm8_ani (x : Byte) : (Instr.ani x).imm8 = x := rfl
@[simp] theorem imm8_xri (x : Byte) : (Instr.xri x).imm8 = x := rfl
@[simp] theorem imm8_ori (x : Byte) : (Instr.ori x).imm8 = x := rfl
@[simp] theorem imm8_cpi (x : Byte) : (Instr.cpi x).imm8 = x := rfl

@[simp] theorem imm16_lxiB (x : Word) : (Instr.lxiB x).imm16 = x := joinBytes_hiByte_loByte x
@[simp] theorem imm16_lxiD (x : Word) : (Instr.lxiD x).imm16 = x := joinBytes_hiByte_loByte x
@[simp] theorem imm16_lxiH (x : Word) : (Instr.lxiH x).imm16 = x := joinBytes_hiByte_loByte x
@[simp] theorem imm16_shld (x : Word) : (Instr.shld x).imm16 = x := joinBytes_hiByte_loByte x
@[simp] theorem imm16_lhld (x : Word) : (Instr.lhld x).imm16 = x := joinBytes_hiByte_loByte x
@[simp] theorem imm16_lxiSP (x : Word) : (Instr.lxiSP x).imm16 = x := joinBytes_hiByte_loByte x
@[simp] theorem imm16_sta (x : Word) : (Instr.sta x).imm16 = x := joinBytes_hiByte_loByte x
@[simp] theorem imm16_lda (x : Word) : (Instr.lda x).imm16 = x := joinBytes_hiByte_loByte x
@[simp] theorem imm16_jnz (x : Word) : (Instr.jnz x).imm16 = x := joinBytes_hiByte_loByte x
@[simp] theorem imm16_jmp (x : Word) : (Instr.jmp x).imm16 = x := joinBytes_hiByte_loByte x
@[simp] theorem imm16_cnz (x : Word) : (Instr.cnz x).imm16 = x := joinBytes_hiByte_loByte x
@[simp] theorem imm16_jz (x : Word) : (Instr.jz x).imm16 = x := joinBytes_hiByte_loByte x
@[simp] theorem imm16_jmpCB (x : Word) : (Instr.jmpCB x).imm16 = x := joinBytes_hiByte_loByte x
@[simp] theorem imm16_cz (x : Word) : (Instr.cz x).imm16 = x := joinBytes_hiByte_loByte x
@[simp] theorem imm16_call (x : Word) : (Instr.call x).imm16 = x := joinBytes_hiByte_loByte x
@[simp] theorem imm16_jnc (x : Word) : (Instr.jnc x).imm16 = x := joinBytes_hiByte_loByte x
@[simp] theorem imm16_cnc (x : Word) : (Instr.cnc x).imm16 = x := joinBytes_hiByte_loByte x
@[simp] theorem imm16_jc (x : Word) : (Instr.jc x).imm16 = x := joinBytes_hiByte_loByte x
@[simp] theorem imm16_cc (x : Word) : (Instr.cc x).imm16 = x := joinBytes_hiByte_loByte x
@[simp] theorem imm16_callDD (x : Word) : (Instr.callDD x).imm16 = x := joinBytes_hiByte_loByte x
@[simp] theorem imm16_jpo (x : Word) : (Instr.jpo x).imm16 = x := joinBytes_hiByte_loByte x
@[simp] theorem imm16_cpo (x : Word) : (Instr.cpo x).imm16 = x := joinBytes_hiByte_loByte x
@[simp] theorem imm16_jpe (x : Word) : (Instr.jpe x).imm16 = x := joinBytes_hiByte_loByte x
@[simp] theorem imm16_cpe (x : Word) : (Instr.cpe x).imm16 = x := joinBytes_hiByte_loByte x
@[simp] theorem imm16_callED (x : Word) : (Instr.callED x).imm16 = x := joinBytes_hiByte_loByte x
@[simp] theorem imm16_jp (x : Word) : (Instr.jp x).imm16 = x := joinBytes_hiByte_loByte x
@[simp] theorem imm16_cp (x : Word) : (Instr.cp x).imm16 = x := joinBytes_hiByte_loByte x
@[simp] theorem imm16_jm (x : Word) : (Instr.jm x).imm16 = x := joinBytes_hiByte_loByte x
@[simp] theorem imm16_cm (x : Word) : (Instr.cm x).imm16 = x := joinBytes_hiByte_loByte x
@[simp] theorem imm16_callFD (x : Word) : (Instr.callFD x).imm16 = x := joinBytes_hiByte_loByte x

end Sys2Proof.Machine.Laws
end

