-- ==== Sys2Proof/Laws/Flags.lean ====
section
/-! SUPPORT. The flag unit: one lemma for each of its operations, giving its result and all five
flags, so that no proof unfolds one. -/

namespace Sys2Proof.Machine.Laws

@[simp] theorem setZSP_cy (r : Byte) (f : Flags) : (setZSP r f).cy = f.cy := rfl
@[simp] theorem setZSP_ac (r : Byte) (f : Flags) : (setZSP r f).ac = f.ac := rfl
@[simp] theorem setZSP_z (r : Byte) (f : Flags) : (setZSP r f).z = (r == 0) := rfl
@[simp] theorem setZSP_s (r : Byte) (f : Flags) : (setZSP r f).s = r.getLsbD 7 := rfl
@[simp] theorem setZSP_p (r : Byte) (f : Flags) : (setZSP r f).p = (popcount r % 2 == 0) := rfl

@[simp] theorem setArithmeticAC_z (m : AuxCarryMode) (v : Bool) (f : Flags) :
    (setArithmeticAC m v f).z = f.z := by cases m <;> rfl
@[simp] theorem setArithmeticAC_s (m : AuxCarryMode) (v : Bool) (f : Flags) :
    (setArithmeticAC m v f).s = f.s := by cases m <;> rfl
@[simp] theorem setArithmeticAC_p (m : AuxCarryMode) (v : Bool) (f : Flags) :
    (setArithmeticAC m v f).p = f.p := by cases m <;> rfl
@[simp] theorem setArithmeticAC_cy (m : AuxCarryMode) (v : Bool) (f : Flags) :
    (setArithmeticAC m v f).cy = f.cy := by cases m <;> rfl
theorem setArithmeticAC_ac (m : AuxCarryMode) (v : Bool) (f : Flags) :
    (setArithmeticAC m v f).ac = match m with | .preserve => f.ac | .intel => v := by cases m <;> rfl

/-- The flags byte and back (R35). -/
@[simp] theorem unpackF_packF (f : Flags) : unpackF (packF f) = f := by
  obtain ⟨z, s, p, cy, ac⟩ := f
  revert z s p cy ac
  decide

/-- The sum and the five flags of `add8` (R122). -/
theorem add8_eq (m : AuxCarryMode) (a b : Byte) (cin : Bool) (f : Flags) :
    add8 m a b cin f =
      let r : Byte := BitVec.ofNat 8 (a.toNat + b.toNat + cin.toNat)
      (r,
        { z := r == 0
          s := r.getLsbD 7
          p := popcount r % 2 == 0
          cy := decide (a.toNat + b.toNat + cin.toNat > 255)
          ac := match m with
            | .preserve => f.ac
            | .intel => decide (a.toNat % 16 + b.toNat % 16 + cin.toNat > 15) }) := by
  cases m <;> rfl

/-- The difference and the five flags of `sub8` (R123). -/
theorem sub8_eq (m : AuxCarryMode) (a b : Byte) (bin : Bool) (f : Flags) :
    sub8 m a b bin f =
      let r : Byte := BitVec.ofInt 8 ((a.toNat : Int) - b.toNat - bin.toNat)
      (r,
        { z := r == 0
          s := r.getLsbD 7
          p := popcount r % 2 == 0
          cy := decide ((a.toNat : Int) - b.toNat - bin.toNat < 0)
          ac := match m with
            | .preserve => f.ac
            | .intel =>
              decide (((a.toNat % 16 : Nat) : Int) - ((b.toNat % 16 : Nat) : Int) - bin.toNat ≥ 0)
        }) := by
  cases m <;> rfl

/-- The difference of `sub8` as a difference of bytes. -/
theorem sub8_result (m : AuxCarryMode) (a b : Byte) (bin : Bool) (f : Flags) :
    (sub8 m a b bin f).1 = a - b - BitVec.ofNat 8 bin.toNat := by
  have h : (sub8 m a b bin f).1 = BitVec.ofInt 8 ((a.toNat : Int) - b.toNat - bin.toNat) := rfl
  rw [h]
  apply BitVec.eq_of_toNat_eq
  have ha := a.isLt
  have hb := b.isLt
  cases bin <;> simp [BitVec.toNat_sub] <;> omega

/-- The result and the five flags of `inc8` (R126). -/
theorem inc8_eq (m : AuxCarryMode) (v : Byte) (f : Flags) :
    inc8 m v f =
      (v + 1,
        { z := v + 1 == 0
          s := (v + 1).getLsbD 7
          p := popcount (v + 1) % 2 == 0
          cy := f.cy
          ac := match m with
            | .preserve => f.ac
            | .intel => decide (v.toNat % 16 = 15) }) := by
  have h : BitVec.ofNat 8 (v.toNat + 1) = v + 1 := by simp [BitVec.ofNat_add]
  unfold inc8
  rw [h]
  cases m <;> rfl

theorem ofInt_toNat_sub_one (v : Byte) : BitVec.ofInt 8 ((v.toNat : Int) - 1) = v - 1 := by
  apply BitVec.eq_of_toNat_eq
  have hv := v.isLt
  simp [BitVec.toNat_sub]
  omega

/-- The result and the five flags of `dec8` (R127). -/
theorem dec8_eq (m : AuxCarryMode) (v : Byte) (f : Flags) :
    dec8 m v f =
      (v - 1,
        { z := v - 1 == 0
          s := (v - 1).getLsbD 7
          p := popcount (v - 1) % 2 == 0
          cy := f.cy
          ac := match m with
            | .preserve => f.ac
            | .intel => decide (v.toNat % 16 ≠ 0) }) := by
  unfold dec8
  rw [ofInt_toNat_sub_one]
  cases m <;> rfl

theorem dec8_result (m : AuxCarryMode) (v : Byte) (f : Flags) : (dec8 m v f).1 = v - 1 := by
  rw [dec8_eq]

end Sys2Proof.Machine.Laws
end

