-- ==== Sys2Proof/Laws/Families.lean ====
section
/-! SUPPORT. The fields each shared operation of the instruction families leaves alone, and what a
meaning's result is in terms of them. -/

namespace Sys2Proof.Machine.Laws

variable (s : State)

@[simp] theorem moveOp_sp (x y : Sel) : (moveOp x y s).sp = s.sp := by simp [moveOp]
@[simp] theorem moveOp_pc (x y : Sel) : (moveOp x y s).pc = s.pc := by simp [moveOp]
@[simp] theorem moveOp_flags (x y : Sel) : (moveOp x y s).flags = s.flags := by simp [moveOp]
@[simp] theorem moveOp_inte (x y : Sel) : (moveOp x y s).inte = s.inte := by simp [moveOp]
@[simp] theorem moveOp_auxCarryMode (x y : Sel) : (moveOp x y s).auxCarryMode = s.auxCarryMode := by simp [moveOp]
@[simp] theorem moveOp_events (x y : Sel) : (moveOp x y s).events = s.events := by simp [moveOp]
@[simp] theorem moveOp_draws (x y : Sel) : (moveOp x y s).draws = s.draws := by simp [moveOp]

@[simp] theorem loadA_b (x : Word) : (loadA x s).b = s.b := rfl
@[simp] theorem loadA_c (x : Word) : (loadA x s).c = s.c := rfl
@[simp] theorem loadA_d (x : Word) : (loadA x s).d = s.d := rfl
@[simp] theorem loadA_e (x : Word) : (loadA x s).e = s.e := rfl
@[simp] theorem loadA_h (x : Word) : (loadA x s).h = s.h := rfl
@[simp] theorem loadA_l (x : Word) : (loadA x s).l = s.l := rfl
@[simp] theorem loadA_sp (x : Word) : (loadA x s).sp = s.sp := rfl
@[simp] theorem loadA_pc (x : Word) : (loadA x s).pc = s.pc := rfl
@[simp] theorem loadA_flags (x : Word) : (loadA x s).flags = s.flags := rfl
@[simp] theorem loadA_inte (x : Word) : (loadA x s).inte = s.inte := rfl
@[simp] theorem loadA_mem (x : Word) : (loadA x s).mem = s.mem := rfl
@[simp] theorem loadA_auxCarryMode (x : Word) : (loadA x s).auxCarryMode = s.auxCarryMode := rfl
@[simp] theorem loadA_events (x : Word) : (loadA x s).events = s.events := rfl
@[simp] theorem loadA_draws (x : Word) : (loadA x s).draws = s.draws := rfl

@[simp] theorem storeA_a (x : Word) : (storeA x s).a = s.a := rfl
@[simp] theorem storeA_b (x : Word) : (storeA x s).b = s.b := rfl
@[simp] theorem storeA_c (x : Word) : (storeA x s).c = s.c := rfl
@[simp] theorem storeA_d (x : Word) : (storeA x s).d = s.d := rfl
@[simp] theorem storeA_e (x : Word) : (storeA x s).e = s.e := rfl
@[simp] theorem storeA_h (x : Word) : (storeA x s).h = s.h := rfl
@[simp] theorem storeA_l (x : Word) : (storeA x s).l = s.l := rfl
@[simp] theorem storeA_sp (x : Word) : (storeA x s).sp = s.sp := rfl
@[simp] theorem storeA_pc (x : Word) : (storeA x s).pc = s.pc := rfl
@[simp] theorem storeA_flags (x : Word) : (storeA x s).flags = s.flags := rfl
@[simp] theorem storeA_inte (x : Word) : (storeA x s).inte = s.inte := rfl
@[simp] theorem storeA_auxCarryMode (x : Word) : (storeA x s).auxCarryMode = s.auxCarryMode := rfl
@[simp] theorem storeA_events (x : Word) : (storeA x s).events = s.events := rfl
@[simp] theorem storeA_draws (x : Word) : (storeA x s).draws = s.draws := rfl

@[simp] theorem exchangeHLDE_a : (exchangeHLDE s).a = s.a := rfl
@[simp] theorem exchangeHLDE_b : (exchangeHLDE s).b = s.b := rfl
@[simp] theorem exchangeHLDE_c : (exchangeHLDE s).c = s.c := rfl
@[simp] theorem exchangeHLDE_sp : (exchangeHLDE s).sp = s.sp := rfl
@[simp] theorem exchangeHLDE_pc : (exchangeHLDE s).pc = s.pc := rfl
@[simp] theorem exchangeHLDE_flags : (exchangeHLDE s).flags = s.flags := rfl
@[simp] theorem exchangeHLDE_inte : (exchangeHLDE s).inte = s.inte := rfl
@[simp] theorem exchangeHLDE_mem : (exchangeHLDE s).mem = s.mem := rfl
@[simp] theorem exchangeHLDE_auxCarryMode : (exchangeHLDE s).auxCarryMode = s.auxCarryMode := rfl
@[simp] theorem exchangeHLDE_events : (exchangeHLDE s).events = s.events := rfl
@[simp] theorem exchangeHLDE_draws : (exchangeHLDE s).draws = s.draws := rfl

@[simp] theorem addToA_b (v : Byte) (cin : Bool) : (addToA v cin s).b = s.b := by simp [addToA]
@[simp] theorem addToA_c (v : Byte) (cin : Bool) : (addToA v cin s).c = s.c := by simp [addToA]
@[simp] theorem addToA_d (v : Byte) (cin : Bool) : (addToA v cin s).d = s.d := by simp [addToA]
@[simp] theorem addToA_e (v : Byte) (cin : Bool) : (addToA v cin s).e = s.e := by simp [addToA]
@[simp] theorem addToA_h (v : Byte) (cin : Bool) : (addToA v cin s).h = s.h := by simp [addToA]
@[simp] theorem addToA_l (v : Byte) (cin : Bool) : (addToA v cin s).l = s.l := by simp [addToA]
@[simp] theorem addToA_sp (v : Byte) (cin : Bool) : (addToA v cin s).sp = s.sp := by simp [addToA]
@[simp] theorem addToA_pc (v : Byte) (cin : Bool) : (addToA v cin s).pc = s.pc := by simp [addToA]
@[simp] theorem addToA_inte (v : Byte) (cin : Bool) : (addToA v cin s).inte = s.inte := by simp [addToA]
@[simp] theorem addToA_mem (v : Byte) (cin : Bool) : (addToA v cin s).mem = s.mem := by simp [addToA]
@[simp] theorem addToA_auxCarryMode (v : Byte) (cin : Bool) : (addToA v cin s).auxCarryMode = s.auxCarryMode := by simp [addToA]
@[simp] theorem addToA_events (v : Byte) (cin : Bool) : (addToA v cin s).events = s.events := by simp [addToA]
@[simp] theorem addToA_draws (v : Byte) (cin : Bool) : (addToA v cin s).draws = s.draws := by simp [addToA]

@[simp] theorem subFromA_b (v : Byte) (bin : Bool) : (subFromA v bin s).b = s.b := by simp [subFromA]
@[simp] theorem subFromA_c (v : Byte) (bin : Bool) : (subFromA v bin s).c = s.c := by simp [subFromA]
@[simp] theorem subFromA_d (v : Byte) (bin : Bool) : (subFromA v bin s).d = s.d := by simp [subFromA]
@[simp] theorem subFromA_e (v : Byte) (bin : Bool) : (subFromA v bin s).e = s.e := by simp [subFromA]
@[simp] theorem subFromA_h (v : Byte) (bin : Bool) : (subFromA v bin s).h = s.h := by simp [subFromA]
@[simp] theorem subFromA_l (v : Byte) (bin : Bool) : (subFromA v bin s).l = s.l := by simp [subFromA]
@[simp] theorem subFromA_sp (v : Byte) (bin : Bool) : (subFromA v bin s).sp = s.sp := by simp [subFromA]
@[simp] theorem subFromA_pc (v : Byte) (bin : Bool) : (subFromA v bin s).pc = s.pc := by simp [subFromA]
@[simp] theorem subFromA_inte (v : Byte) (bin : Bool) : (subFromA v bin s).inte = s.inte := by simp [subFromA]
@[simp] theorem subFromA_mem (v : Byte) (bin : Bool) : (subFromA v bin s).mem = s.mem := by simp [subFromA]
@[simp] theorem subFromA_auxCarryMode (v : Byte) (bin : Bool) : (subFromA v bin s).auxCarryMode = s.auxCarryMode := by simp [subFromA]
@[simp] theorem subFromA_events (v : Byte) (bin : Bool) : (subFromA v bin s).events = s.events := by simp [subFromA]
@[simp] theorem subFromA_draws (v : Byte) (bin : Bool) : (subFromA v bin s).draws = s.draws := by simp [subFromA]

@[simp] theorem incOp_sp (x : Sel) : (incOp x s).sp = s.sp := by simp [incOp]
@[simp] theorem incOp_pc (x : Sel) : (incOp x s).pc = s.pc := by simp [incOp]
@[simp] theorem incOp_inte (x : Sel) : (incOp x s).inte = s.inte := by simp [incOp]
@[simp] theorem incOp_auxCarryMode (x : Sel) : (incOp x s).auxCarryMode = s.auxCarryMode := by simp [incOp]
@[simp] theorem incOp_events (x : Sel) : (incOp x s).events = s.events := by simp [incOp]
@[simp] theorem incOp_draws (x : Sel) : (incOp x s).draws = s.draws := by simp [incOp]

@[simp] theorem decOp_sp (x : Sel) : (decOp x s).sp = s.sp := by simp [decOp]
@[simp] theorem decOp_pc (x : Sel) : (decOp x s).pc = s.pc := by simp [decOp]
@[simp] theorem decOp_inte (x : Sel) : (decOp x s).inte = s.inte := by simp [decOp]
@[simp] theorem decOp_auxCarryMode (x : Sel) : (decOp x s).auxCarryMode = s.auxCarryMode := by simp [decOp]
@[simp] theorem decOp_events (x : Sel) : (decOp x s).events = s.events := by simp [decOp]
@[simp] theorem decOp_draws (x : Sel) : (decOp x s).draws = s.draws := by simp [decOp]

@[simp] theorem addToHL_a (v : Word) : (addToHL v s).a = s.a := by simp [addToHL]
@[simp] theorem addToHL_b (v : Word) : (addToHL v s).b = s.b := by simp [addToHL]
@[simp] theorem addToHL_c (v : Word) : (addToHL v s).c = s.c := by simp [addToHL]
@[simp] theorem addToHL_d (v : Word) : (addToHL v s).d = s.d := by simp [addToHL]
@[simp] theorem addToHL_e (v : Word) : (addToHL v s).e = s.e := by simp [addToHL]
@[simp] theorem addToHL_sp (v : Word) : (addToHL v s).sp = s.sp := by simp [addToHL]
@[simp] theorem addToHL_pc (v : Word) : (addToHL v s).pc = s.pc := by simp [addToHL]
@[simp] theorem addToHL_inte (v : Word) : (addToHL v s).inte = s.inte := by simp [addToHL]
@[simp] theorem addToHL_mem (v : Word) : (addToHL v s).mem = s.mem := by simp [addToHL]
@[simp] theorem addToHL_auxCarryMode (v : Word) : (addToHL v s).auxCarryMode = s.auxCarryMode := by simp [addToHL]
@[simp] theorem addToHL_events (v : Word) : (addToHL v s).events = s.events := by simp [addToHL]
@[simp] theorem addToHL_draws (v : Word) : (addToHL v s).draws = s.draws := by simp [addToHL]

@[simp] theorem decimalAdjustA_b : (decimalAdjustA s).b = s.b := by simp [decimalAdjustA]
@[simp] theorem decimalAdjustA_c : (decimalAdjustA s).c = s.c := by simp [decimalAdjustA]
@[simp] theorem decimalAdjustA_d : (decimalAdjustA s).d = s.d := by simp [decimalAdjustA]
@[simp] theorem decimalAdjustA_e : (decimalAdjustA s).e = s.e := by simp [decimalAdjustA]
@[simp] theorem decimalAdjustA_h : (decimalAdjustA s).h = s.h := by simp [decimalAdjustA]
@[simp] theorem decimalAdjustA_l : (decimalAdjustA s).l = s.l := by simp [decimalAdjustA]
@[simp] theorem decimalAdjustA_sp : (decimalAdjustA s).sp = s.sp := by simp [decimalAdjustA]
@[simp] theorem decimalAdjustA_pc : (decimalAdjustA s).pc = s.pc := by simp [decimalAdjustA]
@[simp] theorem decimalAdjustA_inte : (decimalAdjustA s).inte = s.inte := by simp [decimalAdjustA]
@[simp] theorem decimalAdjustA_mem : (decimalAdjustA s).mem = s.mem := by simp [decimalAdjustA]
@[simp] theorem decimalAdjustA_auxCarryMode : (decimalAdjustA s).auxCarryMode = s.auxCarryMode := by simp [decimalAdjustA]
@[simp] theorem decimalAdjustA_events : (decimalAdjustA s).events = s.events := by simp [decimalAdjustA]
@[simp] theorem decimalAdjustA_draws : (decimalAdjustA s).draws = s.draws := by simp [decimalAdjustA]

@[simp] theorem andIntoA_b (v : Byte) : (andIntoA v s).b = s.b := rfl
@[simp] theorem andIntoA_c (v : Byte) : (andIntoA v s).c = s.c := rfl
@[simp] theorem andIntoA_d (v : Byte) : (andIntoA v s).d = s.d := rfl
@[simp] theorem andIntoA_e (v : Byte) : (andIntoA v s).e = s.e := rfl
@[simp] theorem andIntoA_h (v : Byte) : (andIntoA v s).h = s.h := rfl
@[simp] theorem andIntoA_l (v : Byte) : (andIntoA v s).l = s.l := rfl
@[simp] theorem andIntoA_sp (v : Byte) : (andIntoA v s).sp = s.sp := rfl
@[simp] theorem andIntoA_pc (v : Byte) : (andIntoA v s).pc = s.pc := rfl
@[simp] theorem andIntoA_inte (v : Byte) : (andIntoA v s).inte = s.inte := rfl
@[simp] theorem andIntoA_mem (v : Byte) : (andIntoA v s).mem = s.mem := rfl
@[simp] theorem andIntoA_auxCarryMode (v : Byte) : (andIntoA v s).auxCarryMode = s.auxCarryMode := rfl
@[simp] theorem andIntoA_events (v : Byte) : (andIntoA v s).events = s.events := rfl
@[simp] theorem andIntoA_draws (v : Byte) : (andIntoA v s).draws = s.draws := rfl

@[simp] theorem xorIntoA_b (v : Byte) : (xorIntoA v s).b = s.b := rfl
@[simp] theorem xorIntoA_c (v : Byte) : (xorIntoA v s).c = s.c := rfl
@[simp] theorem xorIntoA_d (v : Byte) : (xorIntoA v s).d = s.d := rfl
@[simp] theorem xorIntoA_e (v : Byte) : (xorIntoA v s).e = s.e := rfl
@[simp] theorem xorIntoA_h (v : Byte) : (xorIntoA v s).h = s.h := rfl
@[simp] theorem xorIntoA_l (v : Byte) : (xorIntoA v s).l = s.l := rfl
@[simp] theorem xorIntoA_sp (v : Byte) : (xorIntoA v s).sp = s.sp := rfl
@[simp] theorem xorIntoA_pc (v : Byte) : (xorIntoA v s).pc = s.pc := rfl
@[simp] theorem xorIntoA_inte (v : Byte) : (xorIntoA v s).inte = s.inte := rfl
@[simp] theorem xorIntoA_mem (v : Byte) : (xorIntoA v s).mem = s.mem := rfl
@[simp] theorem xorIntoA_auxCarryMode (v : Byte) : (xorIntoA v s).auxCarryMode = s.auxCarryMode := rfl
@[simp] theorem xorIntoA_events (v : Byte) : (xorIntoA v s).events = s.events := rfl
@[simp] theorem xorIntoA_draws (v : Byte) : (xorIntoA v s).draws = s.draws := rfl

@[simp] theorem orIntoA_b (v : Byte) : (orIntoA v s).b = s.b := rfl
@[simp] theorem orIntoA_c (v : Byte) : (orIntoA v s).c = s.c := rfl
@[simp] theorem orIntoA_d (v : Byte) : (orIntoA v s).d = s.d := rfl
@[simp] theorem orIntoA_e (v : Byte) : (orIntoA v s).e = s.e := rfl
@[simp] theorem orIntoA_h (v : Byte) : (orIntoA v s).h = s.h := rfl
@[simp] theorem orIntoA_l (v : Byte) : (orIntoA v s).l = s.l := rfl
@[simp] theorem orIntoA_sp (v : Byte) : (orIntoA v s).sp = s.sp := rfl
@[simp] theorem orIntoA_pc (v : Byte) : (orIntoA v s).pc = s.pc := rfl
@[simp] theorem orIntoA_inte (v : Byte) : (orIntoA v s).inte = s.inte := rfl
@[simp] theorem orIntoA_mem (v : Byte) : (orIntoA v s).mem = s.mem := rfl
@[simp] theorem orIntoA_auxCarryMode (v : Byte) : (orIntoA v s).auxCarryMode = s.auxCarryMode := rfl
@[simp] theorem orIntoA_events (v : Byte) : (orIntoA v s).events = s.events := rfl
@[simp] theorem orIntoA_draws (v : Byte) : (orIntoA v s).draws = s.draws := rfl

@[simp] theorem compareA_a (v : Byte) : (compareA v s).a = s.a := rfl
@[simp] theorem compareA_b (v : Byte) : (compareA v s).b = s.b := rfl
@[simp] theorem compareA_c (v : Byte) : (compareA v s).c = s.c := rfl
@[simp] theorem compareA_d (v : Byte) : (compareA v s).d = s.d := rfl
@[simp] theorem compareA_e (v : Byte) : (compareA v s).e = s.e := rfl
@[simp] theorem compareA_h (v : Byte) : (compareA v s).h = s.h := rfl
@[simp] theorem compareA_l (v : Byte) : (compareA v s).l = s.l := rfl
@[simp] theorem compareA_sp (v : Byte) : (compareA v s).sp = s.sp := rfl
@[simp] theorem compareA_pc (v : Byte) : (compareA v s).pc = s.pc := rfl
@[simp] theorem compareA_inte (v : Byte) : (compareA v s).inte = s.inte := rfl
@[simp] theorem compareA_mem (v : Byte) : (compareA v s).mem = s.mem := rfl
@[simp] theorem compareA_auxCarryMode (v : Byte) : (compareA v s).auxCarryMode = s.auxCarryMode := rfl
@[simp] theorem compareA_events (v : Byte) : (compareA v s).events = s.events := rfl
@[simp] theorem compareA_draws (v : Byte) : (compareA v s).draws = s.draws := rfl

@[simp] theorem rotateLeft_b : (rotateLeft s).b = s.b := rfl
@[simp] theorem rotateLeft_c : (rotateLeft s).c = s.c := rfl
@[simp] theorem rotateLeft_d : (rotateLeft s).d = s.d := rfl
@[simp] theorem rotateLeft_e : (rotateLeft s).e = s.e := rfl
@[simp] theorem rotateLeft_h : (rotateLeft s).h = s.h := rfl
@[simp] theorem rotateLeft_l : (rotateLeft s).l = s.l := rfl
@[simp] theorem rotateLeft_sp : (rotateLeft s).sp = s.sp := rfl
@[simp] theorem rotateLeft_pc : (rotateLeft s).pc = s.pc := rfl
@[simp] theorem rotateLeft_inte : (rotateLeft s).inte = s.inte := rfl
@[simp] theorem rotateLeft_mem : (rotateLeft s).mem = s.mem := rfl
@[simp] theorem rotateLeft_auxCarryMode : (rotateLeft s).auxCarryMode = s.auxCarryMode := rfl
@[simp] theorem rotateLeft_events : (rotateLeft s).events = s.events := rfl
@[simp] theorem rotateLeft_draws : (rotateLeft s).draws = s.draws := rfl

@[simp] theorem rotateRight_b : (rotateRight s).b = s.b := rfl
@[simp] theorem rotateRight_c : (rotateRight s).c = s.c := rfl
@[simp] theorem rotateRight_d : (rotateRight s).d = s.d := rfl
@[simp] theorem rotateRight_e : (rotateRight s).e = s.e := rfl
@[simp] theorem rotateRight_h : (rotateRight s).h = s.h := rfl
@[simp] theorem rotateRight_l : (rotateRight s).l = s.l := rfl
@[simp] theorem rotateRight_sp : (rotateRight s).sp = s.sp := rfl
@[simp] theorem rotateRight_pc : (rotateRight s).pc = s.pc := rfl
@[simp] theorem rotateRight_inte : (rotateRight s).inte = s.inte := rfl
@[simp] theorem rotateRight_mem : (rotateRight s).mem = s.mem := rfl
@[simp] theorem rotateRight_auxCarryMode : (rotateRight s).auxCarryMode = s.auxCarryMode := rfl
@[simp] theorem rotateRight_events : (rotateRight s).events = s.events := rfl
@[simp] theorem rotateRight_draws : (rotateRight s).draws = s.draws := rfl

@[simp] theorem rotateLeftThroughCarry_b : (rotateLeftThroughCarry s).b = s.b := rfl
@[simp] theorem rotateLeftThroughCarry_c : (rotateLeftThroughCarry s).c = s.c := rfl
@[simp] theorem rotateLeftThroughCarry_d : (rotateLeftThroughCarry s).d = s.d := rfl
@[simp] theorem rotateLeftThroughCarry_e : (rotateLeftThroughCarry s).e = s.e := rfl
@[simp] theorem rotateLeftThroughCarry_h : (rotateLeftThroughCarry s).h = s.h := rfl
@[simp] theorem rotateLeftThroughCarry_l : (rotateLeftThroughCarry s).l = s.l := rfl
@[simp] theorem rotateLeftThroughCarry_sp : (rotateLeftThroughCarry s).sp = s.sp := rfl
@[simp] theorem rotateLeftThroughCarry_pc : (rotateLeftThroughCarry s).pc = s.pc := rfl
@[simp] theorem rotateLeftThroughCarry_inte : (rotateLeftThroughCarry s).inte = s.inte := rfl
@[simp] theorem rotateLeftThroughCarry_mem : (rotateLeftThroughCarry s).mem = s.mem := rfl
@[simp] theorem rotateLeftThroughCarry_auxCarryMode : (rotateLeftThroughCarry s).auxCarryMode = s.auxCarryMode := rfl
@[simp] theorem rotateLeftThroughCarry_events : (rotateLeftThroughCarry s).events = s.events := rfl
@[simp] theorem rotateLeftThroughCarry_draws : (rotateLeftThroughCarry s).draws = s.draws := rfl

@[simp] theorem rotateRightThroughCarry_b : (rotateRightThroughCarry s).b = s.b := rfl
@[simp] theorem rotateRightThroughCarry_c : (rotateRightThroughCarry s).c = s.c := rfl
@[simp] theorem rotateRightThroughCarry_d : (rotateRightThroughCarry s).d = s.d := rfl
@[simp] theorem rotateRightThroughCarry_e : (rotateRightThroughCarry s).e = s.e := rfl
@[simp] theorem rotateRightThroughCarry_h : (rotateRightThroughCarry s).h = s.h := rfl
@[simp] theorem rotateRightThroughCarry_l : (rotateRightThroughCarry s).l = s.l := rfl
@[simp] theorem rotateRightThroughCarry_sp : (rotateRightThroughCarry s).sp = s.sp := rfl
@[simp] theorem rotateRightThroughCarry_pc : (rotateRightThroughCarry s).pc = s.pc := rfl
@[simp] theorem rotateRightThroughCarry_inte : (rotateRightThroughCarry s).inte = s.inte := rfl
@[simp] theorem rotateRightThroughCarry_mem : (rotateRightThroughCarry s).mem = s.mem := rfl
@[simp] theorem rotateRightThroughCarry_auxCarryMode : (rotateRightThroughCarry s).auxCarryMode = s.auxCarryMode := rfl
@[simp] theorem rotateRightThroughCarry_events : (rotateRightThroughCarry s).events = s.events := rfl
@[simp] theorem rotateRightThroughCarry_draws : (rotateRightThroughCarry s).draws = s.draws := rfl

@[simp] theorem call_a (x : Word) : (s.call x).a = s.a := by simp [State.call]
@[simp] theorem call_b (x : Word) : (s.call x).b = s.b := by simp [State.call]
@[simp] theorem call_c (x : Word) : (s.call x).c = s.c := by simp [State.call]
@[simp] theorem call_d (x : Word) : (s.call x).d = s.d := by simp [State.call]
@[simp] theorem call_e (x : Word) : (s.call x).e = s.e := by simp [State.call]
@[simp] theorem call_h (x : Word) : (s.call x).h = s.h := by simp [State.call]
@[simp] theorem call_l (x : Word) : (s.call x).l = s.l := by simp [State.call]
@[simp] theorem call_flags (x : Word) : (s.call x).flags = s.flags := by simp [State.call]
@[simp] theorem call_inte (x : Word) : (s.call x).inte = s.inte := by simp [State.call]
@[simp] theorem call_auxCarryMode (x : Word) : (s.call x).auxCarryMode = s.auxCarryMode := by simp [State.call]
@[simp] theorem call_events (x : Word) : (s.call x).events = s.events := by simp [State.call]
@[simp] theorem call_draws (x : Word) : (s.call x).draws = s.draws := by simp [State.call]

@[simp] theorem ret_a : (s.ret).a = s.a := rfl
@[simp] theorem ret_b : (s.ret).b = s.b := rfl
@[simp] theorem ret_c : (s.ret).c = s.c := rfl
@[simp] theorem ret_d : (s.ret).d = s.d := rfl
@[simp] theorem ret_e : (s.ret).e = s.e := rfl
@[simp] theorem ret_h : (s.ret).h = s.h := rfl
@[simp] theorem ret_l : (s.ret).l = s.l := rfl
@[simp] theorem ret_flags : (s.ret).flags = s.flags := rfl
@[simp] theorem ret_inte : (s.ret).inte = s.inte := rfl
@[simp] theorem ret_mem : (s.ret).mem = s.mem := rfl
@[simp] theorem ret_auxCarryMode : (s.ret).auxCarryMode = s.auxCarryMode := rfl
@[simp] theorem ret_events : (s.ret).events = s.events := rfl
@[simp] theorem ret_draws : (s.ret).draws = s.draws := rfl

@[simp] theorem jumpIf_a (ccc : Cond) (x : Word) : (jumpIf ccc x s).a = s.a := by unfold jumpIf; split <;> simp
@[simp] theorem jumpIf_b (ccc : Cond) (x : Word) : (jumpIf ccc x s).b = s.b := by unfold jumpIf; split <;> simp
@[simp] theorem jumpIf_c (ccc : Cond) (x : Word) : (jumpIf ccc x s).c = s.c := by unfold jumpIf; split <;> simp
@[simp] theorem jumpIf_d (ccc : Cond) (x : Word) : (jumpIf ccc x s).d = s.d := by unfold jumpIf; split <;> simp
@[simp] theorem jumpIf_e (ccc : Cond) (x : Word) : (jumpIf ccc x s).e = s.e := by unfold jumpIf; split <;> simp
@[simp] theorem jumpIf_h (ccc : Cond) (x : Word) : (jumpIf ccc x s).h = s.h := by unfold jumpIf; split <;> simp
@[simp] theorem jumpIf_l (ccc : Cond) (x : Word) : (jumpIf ccc x s).l = s.l := by unfold jumpIf; split <;> simp
@[simp] theorem jumpIf_sp (ccc : Cond) (x : Word) : (jumpIf ccc x s).sp = s.sp := by unfold jumpIf; split <;> simp
@[simp] theorem jumpIf_flags (ccc : Cond) (x : Word) : (jumpIf ccc x s).flags = s.flags := by unfold jumpIf; split <;> simp
@[simp] theorem jumpIf_inte (ccc : Cond) (x : Word) : (jumpIf ccc x s).inte = s.inte := by unfold jumpIf; split <;> simp
@[simp] theorem jumpIf_mem (ccc : Cond) (x : Word) : (jumpIf ccc x s).mem = s.mem := by unfold jumpIf; split <;> simp
@[simp] theorem jumpIf_auxCarryMode (ccc : Cond) (x : Word) : (jumpIf ccc x s).auxCarryMode = s.auxCarryMode := by unfold jumpIf; split <;> simp
@[simp] theorem jumpIf_events (ccc : Cond) (x : Word) : (jumpIf ccc x s).events = s.events := by unfold jumpIf; split <;> simp
@[simp] theorem jumpIf_draws (ccc : Cond) (x : Word) : (jumpIf ccc x s).draws = s.draws := by unfold jumpIf; split <;> simp

@[simp] theorem callIf_a (ccc : Cond) (x : Word) : (callIf ccc x s).a = s.a := by unfold callIf; split <;> simp
@[simp] theorem callIf_b (ccc : Cond) (x : Word) : (callIf ccc x s).b = s.b := by unfold callIf; split <;> simp
@[simp] theorem callIf_c (ccc : Cond) (x : Word) : (callIf ccc x s).c = s.c := by unfold callIf; split <;> simp
@[simp] theorem callIf_d (ccc : Cond) (x : Word) : (callIf ccc x s).d = s.d := by unfold callIf; split <;> simp
@[simp] theorem callIf_e (ccc : Cond) (x : Word) : (callIf ccc x s).e = s.e := by unfold callIf; split <;> simp
@[simp] theorem callIf_h (ccc : Cond) (x : Word) : (callIf ccc x s).h = s.h := by unfold callIf; split <;> simp
@[simp] theorem callIf_l (ccc : Cond) (x : Word) : (callIf ccc x s).l = s.l := by unfold callIf; split <;> simp
@[simp] theorem callIf_flags (ccc : Cond) (x : Word) : (callIf ccc x s).flags = s.flags := by unfold callIf; split <;> simp
@[simp] theorem callIf_inte (ccc : Cond) (x : Word) : (callIf ccc x s).inte = s.inte := by unfold callIf; split <;> simp
@[simp] theorem callIf_auxCarryMode (ccc : Cond) (x : Word) : (callIf ccc x s).auxCarryMode = s.auxCarryMode := by unfold callIf; split <;> simp
@[simp] theorem callIf_events (ccc : Cond) (x : Word) : (callIf ccc x s).events = s.events := by unfold callIf; split <;> simp
@[simp] theorem callIf_draws (ccc : Cond) (x : Word) : (callIf ccc x s).draws = s.draws := by unfold callIf; split <;> simp

@[simp] theorem retIf_a (ccc : Cond) : (retIf ccc s).a = s.a := by unfold retIf; split <;> simp
@[simp] theorem retIf_b (ccc : Cond) : (retIf ccc s).b = s.b := by unfold retIf; split <;> simp
@[simp] theorem retIf_c (ccc : Cond) : (retIf ccc s).c = s.c := by unfold retIf; split <;> simp
@[simp] theorem retIf_d (ccc : Cond) : (retIf ccc s).d = s.d := by unfold retIf; split <;> simp
@[simp] theorem retIf_e (ccc : Cond) : (retIf ccc s).e = s.e := by unfold retIf; split <;> simp
@[simp] theorem retIf_h (ccc : Cond) : (retIf ccc s).h = s.h := by unfold retIf; split <;> simp
@[simp] theorem retIf_l (ccc : Cond) : (retIf ccc s).l = s.l := by unfold retIf; split <;> simp
@[simp] theorem retIf_flags (ccc : Cond) : (retIf ccc s).flags = s.flags := by unfold retIf; split <;> simp
@[simp] theorem retIf_inte (ccc : Cond) : (retIf ccc s).inte = s.inte := by unfold retIf; split <;> simp
@[simp] theorem retIf_mem (ccc : Cond) : (retIf ccc s).mem = s.mem := by unfold retIf; split <;> simp
@[simp] theorem retIf_auxCarryMode (ccc : Cond) : (retIf ccc s).auxCarryMode = s.auxCarryMode := by unfold retIf; split <;> simp
@[simp] theorem retIf_events (ccc : Cond) : (retIf ccc s).events = s.events := by unfold retIf; split <;> simp
@[simp] theorem retIf_draws (ccc : Cond) : (retIf ccc s).draws = s.draws := by unfold retIf; split <;> simp

@[simp] theorem popInto_pc (p : StackPair) : (popInto p s).pc = s.pc := by simp [popInto]
@[simp] theorem popInto_inte (p : StackPair) : (popInto p s).inte = s.inte := by simp [popInto]
@[simp] theorem popInto_mem (p : StackPair) : (popInto p s).mem = s.mem := by simp [popInto]
@[simp] theorem popInto_auxCarryMode (p : StackPair) : (popInto p s).auxCarryMode = s.auxCarryMode := by simp [popInto]
@[simp] theorem popInto_events (p : StackPair) : (popInto p s).events = s.events := by simp [popInto]
@[simp] theorem popInto_draws (p : StackPair) : (popInto p s).draws = s.draws := by simp [popInto]

@[simp] theorem exchangeTopHL_a : (exchangeTopHL s).a = s.a := by simp [exchangeTopHL]
@[simp] theorem exchangeTopHL_b : (exchangeTopHL s).b = s.b := by simp [exchangeTopHL]
@[simp] theorem exchangeTopHL_c : (exchangeTopHL s).c = s.c := by simp [exchangeTopHL]
@[simp] theorem exchangeTopHL_d : (exchangeTopHL s).d = s.d := by simp [exchangeTopHL]
@[simp] theorem exchangeTopHL_e : (exchangeTopHL s).e = s.e := by simp [exchangeTopHL]
@[simp] theorem exchangeTopHL_sp : (exchangeTopHL s).sp = s.sp := by simp [exchangeTopHL]
@[simp] theorem exchangeTopHL_pc : (exchangeTopHL s).pc = s.pc := by simp [exchangeTopHL]
@[simp] theorem exchangeTopHL_flags : (exchangeTopHL s).flags = s.flags := by simp [exchangeTopHL]
@[simp] theorem exchangeTopHL_inte : (exchangeTopHL s).inte = s.inte := by simp [exchangeTopHL]
@[simp] theorem exchangeTopHL_auxCarryMode : (exchangeTopHL s).auxCarryMode = s.auxCarryMode := by simp [exchangeTopHL]
@[simp] theorem exchangeTopHL_events : (exchangeTopHL s).events = s.events := by simp [exchangeTopHL]
@[simp] theorem exchangeTopHL_draws : (exchangeTopHL s).draws = s.draws := by simp [exchangeTopHL]

@[simp] theorem inputToA_b (port : Byte) : (inputToA port s).b = s.b := rfl
@[simp] theorem inputToA_c (port : Byte) : (inputToA port s).c = s.c := rfl
@[simp] theorem inputToA_d (port : Byte) : (inputToA port s).d = s.d := rfl
@[simp] theorem inputToA_e (port : Byte) : (inputToA port s).e = s.e := rfl
@[simp] theorem inputToA_h (port : Byte) : (inputToA port s).h = s.h := rfl
@[simp] theorem inputToA_l (port : Byte) : (inputToA port s).l = s.l := rfl
@[simp] theorem inputToA_sp (port : Byte) : (inputToA port s).sp = s.sp := rfl
@[simp] theorem inputToA_pc (port : Byte) : (inputToA port s).pc = s.pc := rfl
@[simp] theorem inputToA_flags (port : Byte) : (inputToA port s).flags = s.flags := rfl
@[simp] theorem inputToA_inte (port : Byte) : (inputToA port s).inte = s.inte := rfl
@[simp] theorem inputToA_mem (port : Byte) : (inputToA port s).mem = s.mem := rfl
@[simp] theorem inputToA_auxCarryMode (port : Byte) : (inputToA port s).auxCarryMode = s.auxCarryMode := rfl

/-! The canonical form of memory, for each operation that stores. -/

variable {s}

theorem moveOp_wf (x y : Sel) (hm : Memory.wf s.mem = true) : Memory.wf (moveOp x y s).mem = true :=
  setOp_wf x _ hm

theorem storeA_wf (x : Word) (hm : Memory.wf s.mem = true) : Memory.wf (storeA x s).mem = true :=
  writeByte_wf x _ hm

theorem incOp_wf (x : Sel) (hm : Memory.wf s.mem = true) : Memory.wf (incOp x s).mem = true := by
  unfold incOp
  exact setOp_wf x _ hm

theorem decOp_wf (x : Sel) (hm : Memory.wf s.mem = true) : Memory.wf (decOp x s).mem = true := by
  unfold decOp
  exact setOp_wf x _ hm

theorem call_wf (x : Word) (hm : Memory.wf s.mem = true) : Memory.wf (s.call x).mem = true := by
  have h := push16_wf s.pc hm
  simpa only [State.call, jump_mem] using h

theorem callIf_wf (ccc : Cond) (x : Word) (hm : Memory.wf s.mem = true) :
    Memory.wf (callIf ccc x s).mem = true := by
  unfold callIf
  split
  · exact call_wf x hm
  · exact hm

theorem exchangeTopHL_wf (hm : Memory.wf s.mem = true) :
    Memory.wf (exchangeTopHL s).mem = true := by
  have h := writeWord_wf s.sp s.hl hm
  simpa only [exchangeTopHL, setHL_mem] using h

/-! What bytes each operation that stores leaves behind. -/

variable (s)

@[simp] theorem call_sp (x : Word) : (s.call x).sp = s.sp - 2 := rfl

@[simp] theorem call_pc (x : Word) : (s.call x).pc = x := rfl

/-- After a call the word at SP is the return address. -/
theorem topOfStack_call (x : Word) : (s.call x).topOfStack = s.pc := by
  have h := topOfStack_push16 s s.pc
  exact h

theorem readByte_call (x y : Word) :
    (s.call x).readByte y =
      if y = s.sp - 2 then loByte s.pc else if y = s.sp - 1 then hiByte s.pc else s.readByte y := by
  rw [readByte_congr (s := s.push16 s.pc) (by simp [State.call]), readByte_push16]

theorem readByte_moveOp (x z : Sel) (y : Word) :
    (moveOp x z s).readByte y = if x = .m ∧ y = s.hl then s.getOp z else s.readByte y :=
  readByte_setOp s x (s.getOp z) y

theorem readByte_incOp (x : Sel) (y : Word) :
    (incOp x s).readByte y = if x = .m ∧ y = s.hl then s.getOp x + 1 else s.readByte y := by
  unfold incOp
  rw [readByte_setOp, inc8_eq]
  rfl

theorem readByte_decOp (x : Sel) (y : Word) :
    (decOp x s).readByte y = if x = .m ∧ y = s.hl then s.getOp x - 1 else s.readByte y := by
  unfold decOp
  rw [readByte_setOp, dec8_result]
  rfl

theorem readByte_exchangeTopHL (y : Word) :
    (exchangeTopHL s).readByte y =
      if y = s.sp + 1 then s.h else if y = s.sp then s.l else s.readByte y := by
  rw [readByte_congr (s := s.writeWord s.sp s.hl) (by simp [exchangeTopHL]), readByte_writeWord,
    State.hl, hiByte_joinBytes, loByte_joinBytes]

/-- Every instruction answers a next state, in every state. -/
theorem exec_answers_next (i : Instr) : ∃ t : State, exec i s = .next t := by
  cases i <;> exact ⟨_, rfl⟩

/-- The state an instruction leaves, so that a proof over all instructions need not name it. -/
theorem next_injective {t u : State} (h : (.next t : Result) = .next u) : u = t := by
  cases h
  rfl

end Sys2Proof.Machine.Laws
end

