-- ==== Sys2Proof/Laws/Host.lean ====
section
/-! SUPPORT. What one edit of the host does to memory and to the model's own fields, how a list of
edits composes, and the equations of a watched run (60_exceptions.md R328, 70_reset_and_hazards.md
R353). -/

namespace Sys2Proof.Machine.Laws

/-! One edit. -/

/-- The only edit that changes what memory reads is one of memory, at its address. -/
theorem readByte_hostEdit (s : State) (edit : HostEdit) (y : Word) :
    (s.hostEdit edit).readByte y =
      match edit with
      | .memory x v => if y = x then v else s.readByte y
      | _ => s.readByte y := by
  cases edit with
  | memory x v => exact readByte_writeByte s x y v
  | reg r v => cases r <;> rfl
  | sp _ | pc _ | flags _ | inte _ => rfl

/-- An edit keeps the canonical form of memory. -/
theorem hostEdit_wf {s : State} (edit : HostEdit) (hm : Memory.wf s.mem = true) :
    Memory.wf (s.hostEdit edit).mem = true := by
  cases edit with
  | memory x v => exact writeByte_wf x v hm
  | reg r v => cases r <;> exact hm
  | sp _ | pc _ | flags _ | inte _ => exact hm

@[simp] theorem hostEdit_auxCarryMode (s : State) (edit : HostEdit) :
    (s.hostEdit edit).auxCarryMode = s.auxCarryMode := by
  cases edit with
  | reg r v => cases r <;> rfl
  | sp _ | pc _ | flags _ | inte _ | memory _ _ => rfl

@[simp] theorem hostEdit_events (s : State) (edit : HostEdit) :
    (s.hostEdit edit).events = s.events := by
  cases edit with
  | reg r v => cases r <;> rfl
  | sp _ | pc _ | flags _ | inte _ | memory _ _ => rfl

@[simp] theorem hostEdit_draws (s : State) (edit : HostEdit) :
    (s.hostEdit edit).draws = s.draws := by
  cases edit with
  | reg r v => cases r <;> rfl
  | sp _ | pc _ | flags _ | inte _ | memory _ _ => rfl

theorem hostSetPc_eq (s : State) (entry : Word) : s.hostSetPc entry = { s with pc := entry } := rfl

/-! Lists of edits. -/

@[simp] theorem hostEdits_nil (s : State) : s.hostEdits [] = s := rfl

@[simp] theorem hostEdits_cons (s : State) (edit : HostEdit) (edits : List HostEdit) :
    s.hostEdits (edit :: edits) = (s.hostEdit edit).hostEdits edits := rfl

theorem hostEdits_append (s : State) (xs ys : List HostEdit) :
    s.hostEdits (xs ++ ys) = (s.hostEdits xs).hostEdits ys := List.foldl_append

/-! The steps of a watched run, where a step of the core is known. -/

variable {s t : State} {k : Nat} {now : List HostEdit} {later : List (List HostEdit)}

theorem core_run_succ (h : step s = .next t) : core.run (k + 1) s = core.run k t := by
  have h' : core.step s = .next t := h
  simp only [Host.Core.run, h']

theorem hostRun_never_cons (h : step (s.hostEdits now) = .next t) :
    hostRun (k + 1) .never (now :: later) s = hostRun k .never later t := by
  simp [hostRun, h]

theorem hostRun_never_nil (h : step s = .next t) :
    hostRun (k + 1) .never [] s = hostRun k .never [] t := by
  simp [hostRun, h]

theorem hostRun_steps_nil {n : Nat} (h : step s = .next t) :
    hostRun (k + 1) (.steps (n + 1)) [] s = hostRun k (.steps n) [] t := by
  simp [hostRun, h]

theorem hostRun_atHalt_nil (h : step s = .next t) :
    hostRun (k + 1) .atHalt [] s =
      if eventsOfStep s t = [.halt] then .ended t else hostRun k .atHalt [] t := by
  simp [hostRun, h]

end Sys2Proof.Machine.Laws
end

