-- ==== Sys2Proof/WellFormed.lean ====
section
/-! DEFINITION. Which byte strings are one whole instruction. An `Instr` itself cannot be
ill-formed: its operands are bytes and 16-bit values, each encodable (30_encoding.md R83, R84, R95). -/

namespace Sys2Proof

/-- A byte string that is exactly one instruction: it has an opcode byte, and as many bytes as that
opcode's length (R80, R81). -/
def wellFormedBytes : List Byte → Bool
  | [] => false
  | op :: rest => rest.length + 1 == opcodeLength op

/-- An instruction is well-formed when the encoder lays it out as one whole instruction. Every
instruction is (`Laws.OpcodeGivesLength`). -/
def Instr.wellFormed (i : Instr) : Bool := wellFormedBytes (encode i)

end Sys2Proof
end

