-- ==== Sys2Proof/Laws/PerInstr.lean ====
section
/-! SUPPORT. One law per instruction: the length its opcode byte alone decides is the number of
bytes the encoder lays out (30_encoding.md R80), so every instruction is well-formed. -/

namespace Sys2Proof.Laws.OpcodeGivesLength

def Statement (i : Instr) : Prop := i.wellFormed = true

theorem nop : Statement .nop := by rfl
theorem lxiB (d16 : Word) : Statement (.lxiB d16) := by rfl
theorem staxB : Statement .staxB := by rfl
theorem inxB : Statement .inxB := by rfl
theorem inrB : Statement .inrB := by rfl
theorem dcrB : Statement .dcrB := by rfl
theorem mviB (d8 : Byte) : Statement (.mviB d8) := by rfl
theorem rlc : Statement .rlc := by rfl
theorem nop08 : Statement .nop08 := by rfl
theorem dadB : Statement .dadB := by rfl
theorem ldaxB : Statement .ldaxB := by rfl
theorem dcxB : Statement .dcxB := by rfl
theorem inrC : Statement .inrC := by rfl
theorem dcrC : Statement .dcrC := by rfl
theorem mviC (d8 : Byte) : Statement (.mviC d8) := by rfl
theorem rrc : Statement .rrc := by rfl
theorem nop10 : Statement .nop10 := by rfl
theorem lxiD (d16 : Word) : Statement (.lxiD d16) := by rfl
theorem staxD : Statement .staxD := by rfl
theorem inxD : Statement .inxD := by rfl
theorem inrD : Statement .inrD := by rfl
theorem dcrD : Statement .dcrD := by rfl
theorem mviD (d8 : Byte) : Statement (.mviD d8) := by rfl
theorem ral : Statement .ral := by rfl
theorem nop18 : Statement .nop18 := by rfl
theorem dadD : Statement .dadD := by rfl
theorem ldaxD : Statement .ldaxD := by rfl
theorem dcxD : Statement .dcxD := by rfl
theorem inrE : Statement .inrE := by rfl
theorem dcrE : Statement .dcrE := by rfl
theorem mviE (d8 : Byte) : Statement (.mviE d8) := by rfl
theorem rar : Statement .rar := by rfl
theorem nop20 : Statement .nop20 := by rfl
theorem lxiH (d16 : Word) : Statement (.lxiH d16) := by rfl
theorem shld (a16 : Word) : Statement (.shld a16) := by rfl
theorem inxH : Statement .inxH := by rfl
theorem inrH : Statement .inrH := by rfl
theorem dcrH : Statement .dcrH := by rfl
theorem mviH (d8 : Byte) : Statement (.mviH d8) := by rfl
theorem daa : Statement .daa := by rfl
theorem nop28 : Statement .nop28 := by rfl
theorem dadH : Statement .dadH := by rfl
theorem lhld (a16 : Word) : Statement (.lhld a16) := by rfl
theorem dcxH : Statement .dcxH := by rfl
theorem inrL : Statement .inrL := by rfl
theorem dcrL : Statement .dcrL := by rfl
theorem mviL (d8 : Byte) : Statement (.mviL d8) := by rfl
theorem cma : Statement .cma := by rfl
theorem nop30 : Statement .nop30 := by rfl
theorem lxiSP (d16 : Word) : Statement (.lxiSP d16) := by rfl
theorem sta (a16 : Word) : Statement (.sta a16) := by rfl
theorem inxSP : Statement .inxSP := by rfl
theorem inrM : Statement .inrM := by rfl
theorem dcrM : Statement .dcrM := by rfl
theorem mviM (d8 : Byte) : Statement (.mviM d8) := by rfl
theorem stc : Statement .stc := by rfl
theorem nop38 : Statement .nop38 := by rfl
theorem dadSP : Statement .dadSP := by rfl
theorem lda (a16 : Word) : Statement (.lda a16) := by rfl
theorem dcxSP : Statement .dcxSP := by rfl
theorem inrA : Statement .inrA := by rfl
theorem dcrA : Statement .dcrA := by rfl
theorem mviA (d8 : Byte) : Statement (.mviA d8) := by rfl
theorem cmc : Statement .cmc := by rfl
theorem movBB : Statement .movBB := by rfl
theorem movBC : Statement .movBC := by rfl
theorem movBD : Statement .movBD := by rfl
theorem movBE : Statement .movBE := by rfl
theorem movBH : Statement .movBH := by rfl
theorem movBL : Statement .movBL := by rfl
theorem movBM : Statement .movBM := by rfl
theorem movBA : Statement .movBA := by rfl
theorem movCB : Statement .movCB := by rfl
theorem movCC : Statement .movCC := by rfl
theorem movCD : Statement .movCD := by rfl
theorem movCE : Statement .movCE := by rfl
theorem movCH : Statement .movCH := by rfl
theorem movCL : Statement .movCL := by rfl
theorem movCM : Statement .movCM := by rfl
theorem movCA : Statement .movCA := by rfl
theorem movDB : Statement .movDB := by rfl
theorem movDC : Statement .movDC := by rfl
theorem movDD : Statement .movDD := by rfl
theorem movDE : Statement .movDE := by rfl
theorem movDH : Statement .movDH := by rfl
theorem movDL : Statement .movDL := by rfl
theorem movDM : Statement .movDM := by rfl
theorem movDA : Statement .movDA := by rfl
theorem movEB : Statement .movEB := by rfl
theorem movEC : Statement .movEC := by rfl
theorem movED : Statement .movED := by rfl
theorem movEE : Statement .movEE := by rfl
theorem movEH : Statement .movEH := by rfl
theorem movEL : Statement .movEL := by rfl
theorem movEM : Statement .movEM := by rfl
theorem movEA : Statement .movEA := by rfl
theorem movHB : Statement .movHB := by rfl
theorem movHC : Statement .movHC := by rfl
theorem movHD : Statement .movHD := by rfl
theorem movHE : Statement .movHE := by rfl
theorem movHH : Statement .movHH := by rfl
theorem movHL : Statement .movHL := by rfl
theorem movHM : Statement .movHM := by rfl
theorem movHA : Statement .movHA := by rfl
theorem movLB : Statement .movLB := by rfl
theorem movLC : Statement .movLC := by rfl
theorem movLD : Statement .movLD := by rfl
theorem movLE : Statement .movLE := by rfl
theorem movLH : Statement .movLH := by rfl
theorem movLL : Statement .movLL := by rfl
theorem movLM : Statement .movLM := by rfl
theorem movLA : Statement .movLA := by rfl
theorem movMB : Statement .movMB := by rfl
theorem movMC : Statement .movMC := by rfl
theorem movMD : Statement .movMD := by rfl
theorem movME : Statement .movME := by rfl
theorem movMH : Statement .movMH := by rfl
theorem movML : Statement .movML := by rfl
theorem hlt : Statement .hlt := by rfl
theorem movMA : Statement .movMA := by rfl
theorem movAB : Statement .movAB := by rfl
theorem movAC : Statement .movAC := by rfl
theorem movAD : Statement .movAD := by rfl
theorem movAE : Statement .movAE := by rfl
theorem movAH : Statement .movAH := by rfl
theorem movAL : Statement .movAL := by rfl
theorem movAM : Statement .movAM := by rfl
theorem movAA : Statement .movAA := by rfl
theorem addB : Statement .addB := by rfl
theorem addC : Statement .addC := by rfl
theorem addD : Statement .addD := by rfl
theorem addE : Statement .addE := by rfl
theorem addH : Statement .addH := by rfl
theorem addL : Statement .addL := by rfl
theorem addM : Statement .addM := by rfl
theorem addA : Statement .addA := by rfl
theorem adcB : Statement .adcB := by rfl
theorem adcC : Statement .adcC := by rfl
theorem adcD : Statement .adcD := by rfl
theorem adcE : Statement .adcE := by rfl
theorem adcH : Statement .adcH := by rfl
theorem adcL : Statement .adcL := by rfl
theorem adcM : Statement .adcM := by rfl
theorem adcA : Statement .adcA := by rfl
theorem subB : Statement .subB := by rfl
theorem subC : Statement .subC := by rfl
theorem subD : Statement .subD := by rfl
theorem subE : Statement .subE := by rfl
theorem subH : Statement .subH := by rfl
theorem subL : Statement .subL := by rfl
theorem subM : Statement .subM := by rfl
theorem subA : Statement .subA := by rfl
theorem sbbB : Statement .sbbB := by rfl
theorem sbbC : Statement .sbbC := by rfl
theorem sbbD : Statement .sbbD := by rfl
theorem sbbE : Statement .sbbE := by rfl
theorem sbbH : Statement .sbbH := by rfl
theorem sbbL : Statement .sbbL := by rfl
theorem sbbM : Statement .sbbM := by rfl
theorem sbbA : Statement .sbbA := by rfl
theorem anaB : Statement .anaB := by rfl
theorem anaC : Statement .anaC := by rfl
theorem anaD : Statement .anaD := by rfl
theorem anaE : Statement .anaE := by rfl
theorem anaH : Statement .anaH := by rfl
theorem anaL : Statement .anaL := by rfl
theorem anaM : Statement .anaM := by rfl
theorem anaA : Statement .anaA := by rfl
theorem xraB : Statement .xraB := by rfl
theorem xraC : Statement .xraC := by rfl
theorem xraD : Statement .xraD := by rfl
theorem xraE : Statement .xraE := by rfl
theorem xraH : Statement .xraH := by rfl
theorem xraL : Statement .xraL := by rfl
theorem xraM : Statement .xraM := by rfl
theorem xraA : Statement .xraA := by rfl
theorem oraB : Statement .oraB := by rfl
theorem oraC : Statement .oraC := by rfl
theorem oraD : Statement .oraD := by rfl
theorem oraE : Statement .oraE := by rfl
theorem oraH : Statement .oraH := by rfl
theorem oraL : Statement .oraL := by rfl
theorem oraM : Statement .oraM := by rfl
theorem oraA : Statement .oraA := by rfl
theorem cmpB : Statement .cmpB := by rfl
theorem cmpC : Statement .cmpC := by rfl
theorem cmpD : Statement .cmpD := by rfl
theorem cmpE : Statement .cmpE := by rfl
theorem cmpH : Statement .cmpH := by rfl
theorem cmpL : Statement .cmpL := by rfl
theorem cmpM : Statement .cmpM := by rfl
theorem cmpA : Statement .cmpA := by rfl
theorem rnz : Statement .rnz := by rfl
theorem popB : Statement .popB := by rfl
theorem jnz (a16 : Word) : Statement (.jnz a16) := by rfl
theorem jmp (a16 : Word) : Statement (.jmp a16) := by rfl
theorem cnz (a16 : Word) : Statement (.cnz a16) := by rfl
theorem pushB : Statement .pushB := by rfl
theorem adi (d8 : Byte) : Statement (.adi d8) := by rfl
theorem rst0 : Statement .rst0 := by rfl
theorem rz : Statement .rz := by rfl
theorem ret : Statement .ret := by rfl
theorem jz (a16 : Word) : Statement (.jz a16) := by rfl
theorem jmpCB (a16 : Word) : Statement (.jmpCB a16) := by rfl
theorem cz (a16 : Word) : Statement (.cz a16) := by rfl
theorem call (a16 : Word) : Statement (.call a16) := by rfl
theorem aci (d8 : Byte) : Statement (.aci d8) := by rfl
theorem rst1 : Statement .rst1 := by rfl
theorem rnc : Statement .rnc := by rfl
theorem popD : Statement .popD := by rfl
theorem jnc (a16 : Word) : Statement (.jnc a16) := by rfl
theorem outPort (port : Byte) : Statement (.outPort port) := by rfl
theorem cnc (a16 : Word) : Statement (.cnc a16) := by rfl
theorem pushD : Statement .pushD := by rfl
theorem sui (d8 : Byte) : Statement (.sui d8) := by rfl
theorem rst2 : Statement .rst2 := by rfl
theorem rc : Statement .rc := by rfl
theorem retD9 : Statement .retD9 := by rfl
theorem jc (a16 : Word) : Statement (.jc a16) := by rfl
theorem inPort (port : Byte) : Statement (.inPort port) := by rfl
theorem cc (a16 : Word) : Statement (.cc a16) := by rfl
theorem callDD (a16 : Word) : Statement (.callDD a16) := by rfl
theorem sbi (d8 : Byte) : Statement (.sbi d8) := by rfl
theorem rst3 : Statement .rst3 := by rfl
theorem rpo : Statement .rpo := by rfl
theorem popH : Statement .popH := by rfl
theorem jpo (a16 : Word) : Statement (.jpo a16) := by rfl
theorem xthl : Statement .xthl := by rfl
theorem cpo (a16 : Word) : Statement (.cpo a16) := by rfl
theorem pushH : Statement .pushH := by rfl
theorem ani (d8 : Byte) : Statement (.ani d8) := by rfl
theorem rst4 : Statement .rst4 := by rfl
theorem rpe : Statement .rpe := by rfl
theorem pchl : Statement .pchl := by rfl
theorem jpe (a16 : Word) : Statement (.jpe a16) := by rfl
theorem xchg : Statement .xchg := by rfl
theorem cpe (a16 : Word) : Statement (.cpe a16) := by rfl
theorem callED (a16 : Word) : Statement (.callED a16) := by rfl
theorem xri (d8 : Byte) : Statement (.xri d8) := by rfl
theorem rst5 : Statement .rst5 := by rfl
theorem rp : Statement .rp := by rfl
theorem popPSW : Statement .popPSW := by rfl
theorem jp (a16 : Word) : Statement (.jp a16) := by rfl
theorem di : Statement .di := by rfl
theorem cp (a16 : Word) : Statement (.cp a16) := by rfl
theorem pushPSW : Statement .pushPSW := by rfl
theorem ori (d8 : Byte) : Statement (.ori d8) := by rfl
theorem rst6 : Statement .rst6 := by rfl
theorem rm : Statement .rm := by rfl
theorem sphl : Statement .sphl := by rfl
theorem jm (a16 : Word) : Statement (.jm a16) := by rfl
theorem ei : Statement .ei := by rfl
theorem cm (a16 : Word) : Statement (.cm a16) := by rfl
theorem callFD (a16 : Word) : Statement (.callFD a16) := by rfl
theorem cpi (d8 : Byte) : Statement (.cpi d8) := by rfl
theorem rst7 : Statement .rst7 := by rfl

end Sys2Proof.Laws.OpcodeGivesLength
end

