-- ==== Sys2Proof/Tests/Slice0.lean ====
section
/-! SUPPORT. Tests of one step each, their results taken from the spec's vectors
(95_test_vectors.md), and a witness for the hypotheses of each statement. -/

namespace Sys2Proof.Tests

open Sys2Proof Sys2Proof.Machine

/-- The state with bytes stored from an address upward, modulo 65,536. -/
def placeAt (s : State) (a : Word) : List Byte → State
  | [] => s
  | v :: rest => placeAt (s.writeByte a v) (a + 1) rest

/-- What `f` reads in the state after one step of the instruction placed at PC. -/
def after {α : Type} (s : State) (bytes : List Byte) (f : State → α) : Option α :=
  match step (placeAt s s.pc bytes) with
  | .next t => some (f t)
  | _ => none

/-- The flags written as the spec's vectors write them: Z S P CY AC. -/
def fl (z s p cy ac : Nat) : Flags := ⟨z == 1, s == 1, p == 1, cy == 1, ac == 1⟩

/-- The reset state with PC = 0x0100, where most vectors start. -/
def at100 : State := { State.reset with pc := 0x0100 }

/-! ## Well-formed byte strings: an ill-formed one for each check (R80, R81) -/

theorem test_wf_no_byte : wellFormedBytes [] = false := by decide
theorem test_wf_missing_operand : wellFormedBytes [0x3E] = false := by decide
theorem test_wf_missing_high_byte : wellFormedBytes [0xC3, 0x00] = false := by decide
theorem test_wf_byte_too_many : wellFormedBytes [0x00, 0x00] = false := by decide
theorem test_wf_mvi : wellFormedBytes [0x3E, 0x05] = true := by decide
theorem test_wf_instr : (Instr.jmp 0x3000).wellFormed = true := by decide

/-! ## Decoding -/

theorem test_decode_no_byte : decode [] = .error .noBytes := by decide
theorem test_decode_truncated_f2 : decode [0x3E] = .error (.truncated 0x3E) := by decide
theorem test_decode_truncated_f3 : decode [0xCD, 0x00] = .error (.truncated 0xCD) := by decide

/-- Words written bit by bit from R82: MOV D,M and MOV M,A. -/
theorem test_decode_mov :
    (decode [0b01010110], decode [0b01110111]) = (.ok (.movDM, []), .ok (.movMA, [])) := rfl
/-- R82: MVI L = `00 101 110`, LXI SP = `00 11 0001`, STAX D = `00010010`. -/
theorem test_decode_transfer :
    (decode [0b00101110, 0x7F], decode [0b00110001, 0x00, 0x24], decode [0b00010010]) =
    (.ok (.mviL 0x7F, []), .ok (.lxiSP 0x2400, []), .ok (.staxD, [])) := rfl
/-- R82, R90: ADC H = `10 001 100`, SUI = `11 010 110`, INR M = `00 110 100`, DAD D = `00 01 1001`. -/
theorem test_decode_arithmetic :
    (decode [0b10001100], decode [0b11010110, 0x01], decode [0b00110100], decode [0b00011001]) =
    (.ok (.adcH, []), .ok (.sui 0x01, []), .ok (.inrM, []), .ok (.dadD, [])) := rfl
/-- R82, R90: XRA E = `10 101 011`, ORI = `11 110 110`, CMP L = `10 111 101`, RAR = `00011111`. -/
theorem test_decode_logical :
    (decode [0b10101011], decode [0b11110110, 0x0F], decode [0b10111101], decode [0b00011111]) =
    (.ok (.xraE, []), .ok (.ori 0x0F, []), .ok (.cmpL, []), .ok (.rar, [])) := rfl
/-- R82, R88, R89: JPO = `11 100 010`, CP = `11 110 100`, RM = `11 111 000`, RST 5 = `11 101 111`. -/
theorem test_decode_branch :
    (decode [0b11100010, 0x34, 0x12], decode [0b11110100, 0x34, 0x12], decode [0b11111000],
      decode [0b11101111]) =
    (.ok (.jpo 0x1234, []), .ok (.cp 0x1234, []), .ok (.rm, []), .ok (.rst5, [])) := rfl
/-- R82, R87: POP D = `11 01 0001`, PUSH PSW = `11 11 0101`, IN = `11011011`, EI = `11111011`. -/
theorem test_decode_stack_io_control :
    (decode [0b11010001], decode [0b11110101], decode [0b11011011, 0x10], decode [0b11111011]) =
    (.ok (.popD, []), .ok (.pushPSW, []), .ok (.inPort 0x10, []), .ok (.ei, [])) := rfl
/-- R93, R94: 0xCB, 0xD9, 0xDD, 0x08 are aliases and 0x76 is HLT. -/
theorem test_decode_aliases :
    (decode [0xCB, 0x34, 0x12], decode [0xD9], decode [0xDD, 0x34, 0x12], decode [0x08],
      decode [0x76]) =
    (.ok (.jmpCB 0x1234, []), .ok (.retD9, []), .ok (.callDD 0x1234, []), .ok (.nop08, []),
      .ok (.hlt, [])) := rfl
/-- R91, R99: an operand's low byte comes first, and what follows the instruction is left. -/
theorem test_decode_rest : decode [0x21, 0x34, 0x12, 0xAA] = .ok (.lxiH 0x1234, [0xAA]) := by decide
/-- The table's numbering: bit 0 is the least significant bit of the first byte. -/
theorem test_decode_table_word : decodeTableWord 24 0x1234C3 = some (.jmp 0x1234) := by decide

/-! ## Primitives (95_test_vectors.md section 2) -/

theorem test_parity :
    [0x00, 0x01, 0x03, 0x07, 0x0F, 0x7F, 0x80, 0xFF].map (fun r => decide (popcount r % 2 = 0)) =
    [true, false, true, false, true, false, false, true] := by decide
theorem test_packF :
    (packF (fl 1 0 1 1 0), packF (fl 0 0 0 0 1), packF (fl 1 1 1 1 1)) = (0x0D, 0x10, 0x1F) := by
  decide
theorem test_unpackF :
    (unpackF 0x15, unpackF 0x0A, unpackF 0xE0) = (fl 1 0 1 0 1, fl 0 1 0 1 0, fl 0 0 0 0 0) := by
  decide
/-- In a state with Z = 1, CY = 0, P = 1, S = 0: NZ, Z, NC, C, PO, PE, P, M. -/
theorem test_conditions :
    [Cond.nz, .z, .nc, .c, .po, .pe, .p, .m].map (fun x => condHolds x (fl 1 0 1 0 0)) =
    [false, true, true, false, false, true, true, false] := by decide
/-- The same eight by the claims' own reading of the condition field (R88). -/
theorem test_condition_fields :
    [0, 1, 2, 3, 4, 5, 6, 7].map (fun x => conditionOfField x (fl 1 0 1 0 0)) =
    [false, true, true, false, false, true, true, false] := by decide

/-! ## One step per vector (95_test_vectors.md section 3) -/

/-- DT-1: MOV B,C (R151). -/
theorem test_DT_1 :
    after { at100 with c := 0x5A } [0x41]
      (fun t => (t.b, t.pc, t.flags)) =
    some (0x5A, 0x0101, fl 0 0 0 0 0) := by decide

/-- DT-2: MOV A,A (same register) (R151). -/
theorem test_DT_2 :
    after { at100 with a := 0x77, flags := fl 0 0 0 1 0 } [0x7F]
      (fun t => (t.pc, t.flags)) =
    some (0x0101, fl 0 0 0 1 0) := by decide

/-- DT-3: MOV E,M (R152). -/
theorem test_DT_3 :
    after (({ at100 with h := 0x20, l := 0x00 }).writeByte 0x2000 0x9C) [0x5E]
      (fun t => (t.e, t.pc, t.flags)) =
    some (0x9C, 0x0101, fl 0 0 0 0 0) := by decide

/-- DT-4: MOV M,D (R153). -/
theorem test_DT_4 :
    after { at100 with h := 0x20, l := 0x00, d := 0x3E } [0x72]
      (fun t => (t.pc, t.readByte 0x2000, t.flags)) =
    some (0x0101, 0x3E, fl 0 0 0 0 0) := by decide

/-- DT-5: MOV H,M (H overwritten from the byte HL addressed) (R152). -/
theorem test_DT_5 :
    after (({ at100 with h := 0x20, l := 0x10 }).writeByte 0x2010 0x44) [0x66]
      (fun t => (t.h, t.pc, t.flags)) =
    some (0x44, 0x0101, fl 0 0 0 0 0) := by decide

/-- DT-6: MOV M,L (byte stored is L, address from HL) (R153). -/
theorem test_DT_6 :
    after { at100 with h := 0x20, l := 0x10 } [0x75]
      (fun t => (t.pc, t.readByte 0x2010, t.flags)) =
    some (0x0101, 0x10, fl 0 0 0 0 0) := by decide

/-- DT-7: MVI C,d8 (R154). -/
theorem test_DT_7 :
    after at100 [0x0E, 0xA5]
      (fun t => (t.c, t.pc, t.flags)) =
    some (0xA5, 0x0102, fl 0 0 0 0 0) := by decide

/-- DT-8: MVI M,d8 (R155). -/
theorem test_DT_8 :
    after { at100 with h := 0x30, l := 0x00 } [0x36, 0x7E]
      (fun t => (t.pc, t.readByte 0x3000, t.flags)) =
    some (0x0102, 0x7E, fl 0 0 0 0 0) := by decide

/-- DT-9: LXI B,d16 (R156). -/
theorem test_DT_9 :
    after at100 [0x01, 0x34, 0x12]
      (fun t => (t.b, t.c, t.pc, t.flags)) =
    some (0x12, 0x34, 0x0103, fl 0 0 0 0 0) := by decide

/-- DT-12: LXI SP,d16 (R156). -/
theorem test_DT_12 :
    after at100 [0x31, 0x00, 0x24]
      (fun t => (t.sp, t.pc, t.flags)) =
    some (0x2400, 0x0103, fl 0 0 0 0 0) := by decide

/-- DT-13: LDA a16 (R157). -/
theorem test_DT_13 :
    after ((at100).writeByte 0x2050 0x81) [0x3A, 0x50, 0x20]
      (fun t => (t.a, t.pc, t.flags)) =
    some (0x81, 0x0103, fl 0 0 0 0 0) := by decide

/-- DT-14: STA a16 (R158). -/
theorem test_DT_14 :
    after { at100 with a := 0xC3 } [0x32, 0x50, 0x20]
      (fun t => (t.pc, t.readByte 0x2050, t.flags)) =
    some (0x0103, 0xC3, fl 0 0 0 0 0) := by decide

/-- DT-16: SHLD a16 (R160). -/
theorem test_DT_16 :
    after { at100 with pc := 0x0200, h := 0xAE, l := 0x29 } [0x22, 0x0A, 0x01]
      (fun t => (t.pc, t.readByte 0x010A, t.readByte 0x010B, t.flags)) =
    some (0x0203, 0x29, 0xAE, fl 0 0 0 0 0) := by decide

/-- DT-17: LHLD at 0xFFFF (wraps to 0x0000) (R159). -/
theorem test_DT_17 :
    after (((at100).writeByte 0xFFFF 0x11).writeByte 0x0000 0x22) [0x2A, 0xFF, 0xFF]
      (fun t => (t.h, t.l, t.pc, t.flags)) =
    some (0x22, 0x11, 0x0103, fl 0 0 0 0 0) := by decide

/-- DT-18: LDAX B (R161). -/
theorem test_DT_18 :
    after (({ at100 with b := 0x22, c := 0x22 }).writeByte 0x2222 0x5F) [0x0A]
      (fun t => (t.a, t.pc, t.flags)) =
    some (0x5F, 0x0101, fl 0 0 0 0 0) := by decide

/-- DT-21: STAX D (R162). -/
theorem test_DT_21 :
    after { at100 with d := 0x25, e := 0x55, a := 0x62 } [0x12]
      (fun t => (t.pc, t.readByte 0x2555, t.flags)) =
    some (0x0101, 0x62, fl 0 0 0 0 0) := by decide

/-- DT-22: XCHG (R163). -/
theorem test_DT_22 :
    after { at100 with h := 0x12, l := 0x34, d := 0xAB, e := 0xCD } [0xEB]
      (fun t => (t.d, t.e, t.h, t.l, t.pc, t.flags)) =
    some (0x12, 0x34, 0xAB, 0xCD, 0x0101, fl 0 0 0 0 0) := by decide

/-- DT-23: MVI A at 0xFFFF (operand fetched from 0x0000) (R154). -/
theorem test_DT_23 :
    after (({ at100 with pc := 0xFFFF }).writeByte 0x0000 0x99) [0x3E]
      (fun t => (t.a, t.pc, t.flags)) =
    some (0x99, 0x0001, fl 0 0 0 0 0) := by decide

/-- DT-24: LXI H at 0xFFFE (operands from 0xFFFF and 0x0000) (R156). -/
theorem test_DT_24 :
    after (({ at100 with pc := 0xFFFE }).writeByte 0x0000 0x12) [0x21, 0x34]
      (fun t => (t.h, t.l, t.pc, t.flags)) =
    some (0x12, 0x34, 0x0001, fl 0 0 0 0 0) := by decide

/-- AR-1: ADD B, overflow to zero (source §8) (R181). -/
theorem test_AR_1 :
    after { at100 with a := 0xFF, b := 0x01 } [0x80]
      (fun t => (t.a, t.pc, t.flags)) =
    some (0x00, 0x0101, fl 1 0 1 1 0) := by decide

/-- AR-2: ADD B, overflow to zero (R181). -/
theorem test_AR_2 :
    after { at100 with a := 0xFF, b := 0x01, auxCarryMode := .intel } [0x80]
      (fun t => (t.a, t.pc, t.flags)) =
    some (0x00, 0x0101, fl 1 0 1 1 1) := by decide

/-- AR-4: ADD C, no carry, sign (R181). -/
theorem test_AR_4 :
    after { at100 with a := 0x6C, c := 0x2E, auxCarryMode := .intel } [0x81]
      (fun t => (t.a, t.pc, t.flags)) =
    some (0x9A, 0x0101, fl 0 1 1 0 1) := by decide

/-- AR-5: ADD A (doubles A) (R181). -/
theorem test_AR_5 :
    after { at100 with a := 0x81 } [0x87]
      (fun t => (t.a, t.pc, t.flags)) =
    some (0x02, 0x0101, fl 0 0 0 1 0) := by decide

/-- AR-6: ADD M (R182). -/
theorem test_AR_6 :
    after (({ at100 with a := 0x20, h := 0x20, l := 0x00 }).writeByte 0x2000 0x10) [0x86]
      (fun t => (t.a, t.pc, t.flags)) =
    some (0x30, 0x0101, fl 0 0 1 0 0) := by decide

/-- AR-8: ADI d8, AC preserved in preserve mode (R183). -/
theorem test_AR_8 :
    after { at100 with a := 0x0F, flags := fl 0 0 0 0 1 } [0xC6, 0x01]
      (fun t => (t.a, t.pc, t.flags)) =
    some (0x10, 0x0102, fl 0 0 0 0 1) := by decide

/-- AR-9: ADI d8, AC computed in intel mode (R183). -/
theorem test_AR_9 :
    after { at100 with a := 0x0F, auxCarryMode := .intel } [0xC6, 0x01]
      (fun t => (t.a, t.pc, t.flags)) =
    some (0x10, 0x0102, fl 0 0 0 0 1) := by decide

/-- AR-10: ADC C with CY=1 (R184). -/
theorem test_AR_10 :
    after { at100 with a := 0x3D, c := 0x42, flags := fl 0 0 0 1 0, auxCarryMode := .intel } [0x89]
      (fun t => (t.a, t.pc, t.flags)) =
    some (0x80, 0x0101, fl 0 1 0 0 1) := by decide

/-- AR-12: ADC M (R185). -/
theorem test_AR_12 :
    after (({ at100 with a := 0x01, h := 0x20, l := 0x00, flags := fl 0 0 0 1 0 }).writeByte 0x2000 0x01) [0x8E]
      (fun t => (t.a, t.pc, t.flags)) =
    some (0x03, 0x0101, fl 0 0 1 0 0) := by decide

/-- AR-13: ACI d8 (R186). -/
theorem test_AR_13 :
    after { at100 with a := 0x56, flags := fl 0 0 0 1 0, auxCarryMode := .intel } [0xCE, 0xBE]
      (fun t => (t.a, t.pc, t.flags)) =
    some (0x15, 0x0102, fl 0 0 0 1 1) := by decide

/-- AR-14: SUB A (clears A, CY=0) (R187). -/
theorem test_AR_14 :
    after { at100 with a := 0x3E, flags := fl 0 0 0 1 0, auxCarryMode := .intel } [0x97]
      (fun t => (t.a, t.pc, t.flags)) =
    some (0x00, 0x0101, fl 1 0 1 0 1) := by decide

/-- AR-15: SUB B, borrow (R187). -/
theorem test_AR_15 :
    after { at100 with a := 0x10, b := 0x20 } [0x90]
      (fun t => (t.a, t.pc, t.flags)) =
    some (0xF0, 0x0101, fl 0 1 1 1 0) := by decide

/-- AR-17: SUB M (R188). -/
theorem test_AR_17 :
    after (({ at100 with a := 0x10, h := 0x20, l := 0x00 }).writeByte 0x2000 0x20) [0x96]
      (fun t => (t.a, t.pc, t.flags)) =
    some (0xF0, 0x0101, fl 0 1 1 1 0) := by decide

/-- AR-18: SUI d8 (R189). -/
theorem test_AR_18 :
    after { at100 with a := 0x00, auxCarryMode := .intel } [0xD6, 0x01]
      (fun t => (t.a, t.pc, t.flags)) =
    some (0xFF, 0x0102, fl 0 1 1 1 0) := by decide

/-- AR-19: SBB L with CY=1 (R190). -/
theorem test_AR_19 :
    after { at100 with a := 0x04, l := 0x02, flags := fl 0 0 0 1 0, auxCarryMode := .intel } [0x9D]
      (fun t => (t.a, t.pc, t.flags)) =
    some (0x01, 0x0101, fl 0 0 0 0 1) := by decide

/-- AR-20: SBB M, 00-00-1 (R191). -/
theorem test_AR_20 :
    after { at100 with a := 0x00, h := 0x20, l := 0x00, flags := fl 0 0 0 1 0 } [0x9E]
      (fun t => (t.a, t.pc, t.flags)) =
    some (0xFF, 0x0101, fl 0 1 1 1 0) := by decide

/-- AR-21: SBI d8 with CY=0 (R192). -/
theorem test_AR_21 :
    after { at100 with a := 0x80, auxCarryMode := .intel } [0xDE, 0x01]
      (fun t => (t.a, t.pc, t.flags)) =
    some (0x7F, 0x0102, fl 0 0 0 0 0) := by decide

/-- AR-22: INR A, FF to 00, CY kept (R193). -/
theorem test_AR_22 :
    after { at100 with a := 0xFF, flags := fl 0 0 0 1 0 } [0x3C]
      (fun t => (t.a, t.pc, t.flags)) =
    some (0x00, 0x0101, fl 1 0 1 1 0) := by decide

/-- AR-23: INR A, FF to 00, CY kept (R193). -/
theorem test_AR_23 :
    after { at100 with a := 0xFF, flags := fl 0 0 0 1 0, auxCarryMode := .intel } [0x3C]
      (fun t => (t.a, t.pc, t.flags)) =
    some (0x00, 0x0101, fl 1 0 1 1 1) := by decide

/-- AR-25: INR M (R194). -/
theorem test_AR_25 :
    after (({ at100 with h := 0x20, l := 0x00 }).writeByte 0x2000 0x7F) [0x34]
      (fun t => (t.pc, t.readByte 0x2000, t.flags)) =
    some (0x0101, 0x80, fl 0 1 0 0 0) := by decide

/-- AR-26: DCR C, 01 to 00 (R195). -/
theorem test_AR_26 :
    after { at100 with c := 0x01, auxCarryMode := .intel } [0x0D]
      (fun t => (t.c, t.pc, t.flags)) =
    some (0x00, 0x0101, fl 1 0 1 0 1) := by decide

/-- AR-27: DCR E, 00 to FF, CY kept (R195). -/
theorem test_AR_27 :
    after { at100 with e := 0x00, flags := fl 0 0 0 0 0, auxCarryMode := .intel } [0x1D]
      (fun t => (t.e, t.pc, t.flags)) =
    some (0xFF, 0x0101, fl 0 1 1 0 0) := by decide

/-- AR-28: DCR M (R196). -/
theorem test_AR_28 :
    after (({ at100 with h := 0x20, l := 0x00 }).writeByte 0x2000 0x00) [0x35]
      (fun t => (t.pc, t.readByte 0x2000, t.flags)) =
    some (0x0101, 0xFF, fl 0 1 1 0 0) := by decide

/-- AR-29: INX B (R197). -/
theorem test_AR_29 :
    after { at100 with b := 0x00, c := 0xFF } [0x03]
      (fun t => (t.b, t.c, t.pc, t.flags)) =
    some (0x01, 0x00, 0x0101, fl 0 0 0 0 0) := by decide

/-- AR-30: INX SP, FFFF to 0000, flags unchanged (R197). -/
theorem test_AR_30 :
    after { at100 with sp := 0xFFFF, flags := fl 0 0 0 0 0 } [0x33]
      (fun t => (t.sp, t.pc, t.flags)) =
    some (0x0000, 0x0101, fl 0 0 0 0 0) := by decide

/-- AR-32: DCX D, 0000 to FFFF (R198). -/
theorem test_AR_32 :
    after { at100 with d := 0x00, e := 0x00 } [0x1B]
      (fun t => (t.d, t.e, t.pc, t.flags)) =
    some (0xFF, 0xFF, 0x0101, fl 0 0 0 0 0) := by decide

/-- AR-34: DCX SP (R198). -/
theorem test_AR_34 :
    after { at100 with sp := 0x2400 } [0x3B]
      (fun t => (t.sp, t.pc, t.flags)) =
    some (0x23FF, 0x0101, fl 0 0 0 0 0) := by decide

/-- AR-35: DAD B (R199). -/
theorem test_AR_35 :
    after { at100 with h := 0xA1, l := 0x7B, b := 0x33, c := 0x9F } [0x09]
      (fun t => (t.h, t.l, t.pc, t.flags)) =
    some (0xD5, 0x1A, 0x0101, fl 0 0 0 0 0) := by decide

/-- AR-36: DAD D, carry out, Z/S/P unchanged (R199). -/
theorem test_AR_36 :
    after { at100 with h := 0xFF, l := 0xFF, d := 0x00, e := 0x01, flags := fl 0 1 0 0 0 } [0x19]
      (fun t => (t.h, t.l, t.pc, t.flags)) =
    some (0x00, 0x00, 0x0101, fl 0 1 0 1 0) := by decide

/-- AR-37: DAD H (doubles HL) (R199). -/
theorem test_AR_37 :
    after { at100 with h := 0x80, l := 0x01 } [0x29]
      (fun t => (t.h, t.l, t.pc, t.flags)) =
    some (0x00, 0x02, 0x0101, fl 0 0 0 1 0) := by decide

/-- AR-38: DAD SP (R199). -/
theorem test_AR_38 :
    after { at100 with h := 0x00, l := 0x10, sp := 0x2400 } [0x39]
      (fun t => (t.h, t.pc, t.flags)) =
    some (0x24, 0x0101, fl 0 0 0 0 0) := by decide

/-- AR-40: DAA, 9B (R200). -/
theorem test_AR_40 :
    after { at100 with a := 0x9B, auxCarryMode := .intel } [0x27]
      (fun t => (t.a, t.pc, t.flags)) =
    some (0x01, 0x0101, fl 0 0 0 1 1) := by decide

/-- AR-42: DAA with AC=1 (low correction only) (R200). -/
theorem test_AR_42 :
    after { at100 with a := 0x41, flags := fl 0 0 0 0 1 } [0x27]
      (fun t => (t.a, t.pc, t.flags)) =
    some (0x47, 0x0101, fl 0 0 1 0 1) := by decide

/-- LG-2: ANI d8 (source §8 parity example) (R223). -/
theorem test_LG_2 :
    after { at100 with a := 0x0F } [0xE6, 0x0F]
      (fun t => (t.pc, t.flags)) =
    some (0x0102, fl 0 0 1 0 0) := by decide

/-- LG-3: ANA B, CY and AC cleared (R221). -/
theorem test_LG_3 :
    after { at100 with a := 0xFC, b := 0x0F, flags := fl 0 0 0 1 1, auxCarryMode := .intel } [0xA0]
      (fun t => (t.a, t.pc, t.flags)) =
    some (0x0C, 0x0101, fl 0 0 1 0 0) := by decide

/-- LG-4: ANA M (R222). -/
theorem test_LG_4 :
    after (({ at100 with a := 0xF0, h := 0x20, l := 0x00 }).writeByte 0x2000 0x0F) [0xA6]
      (fun t => (t.a, t.pc, t.flags)) =
    some (0x00, 0x0101, fl 1 0 1 0 0) := by decide

/-- LG-6: XRA A (clears A) (R224). -/
theorem test_LG_6 :
    after { at100 with a := 0x5C, flags := fl 0 0 0 1 0 } [0xAF]
      (fun t => (t.a, t.pc, t.flags)) =
    some (0x00, 0x0101, fl 1 0 1 0 0) := by decide

/-- LG-7: XRA M (R225). -/
theorem test_LG_7 :
    after (({ at100 with a := 0x3C, h := 0x20, l := 0x00 }).writeByte 0x2000 0xFF) [0xAE]
      (fun t => (t.a, t.pc, t.flags)) =
    some (0xC3, 0x0101, fl 0 1 1 0 0) := by decide

/-- LG-8: XRI d8 (R226). -/
theorem test_LG_8 :
    after { at100 with a := 0x3B } [0xEE, 0x81]
      (fun t => (t.a, t.pc, t.flags)) =
    some (0xBA, 0x0102, fl 0 1 0 0 0) := by decide

/-- LG-9: ORA C (R227). -/
theorem test_LG_9 :
    after { at100 with a := 0x33, c := 0x0F } [0xB1]
      (fun t => (t.a, t.pc, t.flags)) =
    some (0x3F, 0x0101, fl 0 0 1 0 0) := by decide

/-- LG-11: ORI d8 (R229). -/
theorem test_LG_11 :
    after { at100 with a := 0xB5 } [0xF6, 0x0F]
      (fun t => (t.a, t.pc, t.flags)) =
    some (0xBF, 0x0102, fl 0 1 0 0 0) := by decide

/-- LG-13: CMP E, A < E (R230). -/
theorem test_LG_13 :
    after { at100 with a := 0x02, e := 0x05 } [0xBB]
      (fun t => (t.pc, t.flags)) =
    some (0x0101, fl 0 1 0 1 0) := by decide

/-- LG-14: CMP E, A = E (R230). -/
theorem test_LG_14 :
    after { at100 with a := 0x05, e := 0x05, auxCarryMode := .intel } [0xBB]
      (fun t => (t.pc, t.flags)) =
    some (0x0101, fl 1 0 1 0 1) := by decide

/-- LG-16: CMP M (R231). -/
theorem test_LG_16 :
    after (({ at100 with a := 0x40, h := 0x20, l := 0x00, auxCarryMode := .intel }).writeByte 0x2000 0x41) [0xBE]
      (fun t => (t.pc, t.flags)) =
    some (0x0101, fl 0 1 1 1 0) := by decide

/-- LG-17: CPI d8 (R232). -/
theorem test_LG_17 :
    after { at100 with a := 0x4A } [0xFE, 0x40]
      (fun t => (t.pc, t.flags)) =
    some (0x0102, fl 0 0 1 0 0) := by decide

/-- LG-18: RLC (R233). -/
theorem test_LG_18 :
    after { at100 with a := 0xF2 } [0x07]
      (fun t => (t.a, t.pc, t.flags)) =
    some (0xE5, 0x0101, fl 0 0 0 1 0) := by decide

/-- LG-20: RRC (R234). -/
theorem test_LG_20 :
    after { at100 with a := 0xF2 } [0x0F]
      (fun t => (t.a, t.pc, t.flags)) =
    some (0x79, 0x0101, fl 0 0 0 0 0) := by decide

/-- LG-21: RRC with bit 0 = 1 (R234). -/
theorem test_LG_21 :
    after { at100 with a := 0x01 } [0x0F]
      (fun t => (t.a, t.pc, t.flags)) =
    some (0x80, 0x0101, fl 0 0 0 1 0) := by decide

/-- LG-22: RAL (R235). -/
theorem test_LG_22 :
    after { at100 with a := 0xB5 } [0x17]
      (fun t => (t.a, t.pc, t.flags)) =
    some (0x6A, 0x0101, fl 0 0 0 1 0) := by decide

/-- LG-23: RAL with CY=1 (R235). -/
theorem test_LG_23 :
    after { at100 with a := 0x00, flags := fl 0 0 0 1 0 } [0x17]
      (fun t => (t.a, t.pc, t.flags)) =
    some (0x01, 0x0101, fl 0 0 0 0 0) := by decide

/-- LG-24: RAR with CY=1 (R236). -/
theorem test_LG_24 :
    after { at100 with a := 0x6A, flags := fl 0 0 0 1 0 } [0x1F]
      (fun t => (t.a, t.pc, t.flags)) =
    some (0xB5, 0x0101, fl 0 0 0 0 0) := by decide

/-- LG-25: RAR with CY=0 (R236). -/
theorem test_LG_25 :
    after { at100 with a := 0x01 } [0x1F]
      (fun t => (t.a, t.pc, t.flags)) =
    some (0x00, 0x0101, fl 0 0 0 1 0) := by decide

/-- LG-27: CMA, flags unchanged (R237). -/
theorem test_LG_27 :
    after { at100 with a := 0xFF, flags := fl 0 0 0 0 0 } [0x2F]
      (fun t => (t.a, t.pc, t.flags)) =
    some (0x00, 0x0101, fl 0 0 0 0 0) := by decide

/-- LG-28: CMC with CY=0 (R238). -/
theorem test_LG_28 :
    after at100 [0x3F]
      (fun t => (t.pc, t.flags)) =
    some (0x0101, fl 0 0 0 1 0) := by decide

/-- LG-29: CMC with CY=1 (R238). -/
theorem test_LG_29 :
    after { at100 with flags := fl 0 0 0 1 0 } [0x3F]
      (fun t => (t.pc, t.flags)) =
    some (0x0101, fl 0 0 0 0 0) := by decide

/-- LG-30: STC (R239). -/
theorem test_LG_30 :
    after at100 [0x37]
      (fun t => (t.pc, t.flags)) =
    some (0x0101, fl 0 0 0 1 0) := by decide

/-- BR-1: JMP a16 (R251). -/
theorem test_BR_1 :
    after at100 [0xC3, 0x00, 0x30]
      (fun t => (t.pc, t.flags)) =
    some (0x3000, fl 0 0 0 0 0) := by decide

/-- BR-2: JNZ taken (R252). -/
theorem test_BR_2 :
    after { at100 with flags := fl 0 0 0 0 0 } [0xC2, 0x00, 0x30]
      (fun t => (t.pc, t.flags)) =
    some (0x3000, fl 0 0 0 0 0) := by decide

/-- BR-3: JNZ not taken (R252). -/
theorem test_BR_3 :
    after { at100 with flags := fl 1 0 0 0 0 } [0xC2, 0x00, 0x30]
      (fun t => (t.pc, t.flags)) =
    some (0x0103, fl 1 0 0 0 0) := by decide

/-- BR-6: JNC taken (R252). -/
theorem test_BR_6 :
    after { at100 with flags := fl 0 0 0 0 0 } [0xD2, 0x00, 0x30]
      (fun t => (t.pc, t.flags)) =
    some (0x3000, fl 0 0 0 0 0) := by decide

/-- BR-8: JC taken (R252). -/
theorem test_BR_8 :
    after { at100 with flags := fl 0 0 0 1 0 } [0xDA, 0x00, 0x30]
      (fun t => (t.pc, t.flags)) =
    some (0x3000, fl 0 0 0 1 0) := by decide

/-- BR-9: JC not taken (R252). -/
theorem test_BR_9 :
    after { at100 with flags := fl 0 0 0 0 0 } [0xDA, 0x00, 0x30]
      (fun t => (t.pc, t.flags)) =
    some (0x0103, fl 0 0 0 0 0) := by decide

/-- BR-10: JPO taken (R252). -/
theorem test_BR_10 :
    after { at100 with flags := fl 0 0 0 0 0 } [0xE2, 0x00, 0x30]
      (fun t => (t.pc, t.flags)) =
    some (0x3000, fl 0 0 0 0 0) := by decide

/-- BR-12: JPE taken (R252). -/
theorem test_BR_12 :
    after { at100 with flags := fl 0 0 1 0 0 } [0xEA, 0x00, 0x30]
      (fun t => (t.pc, t.flags)) =
    some (0x3000, fl 0 0 1 0 0) := by decide

/-- BR-14: JP taken (R252). -/
theorem test_BR_14 :
    after { at100 with flags := fl 0 0 0 0 0 } [0xF2, 0x00, 0x30]
      (fun t => (t.pc, t.flags)) =
    some (0x3000, fl 0 0 0 0 0) := by decide

/-- BR-15: JP not taken (R252). -/
theorem test_BR_15 :
    after { at100 with flags := fl 0 1 0 0 0 } [0xF2, 0x00, 0x30]
      (fun t => (t.pc, t.flags)) =
    some (0x0103, fl 0 1 0 0 0) := by decide

/-- BR-16: JM taken (R252). -/
theorem test_BR_16 :
    after { at100 with flags := fl 0 1 0 0 0 } [0xFA, 0x00, 0x30]
      (fun t => (t.pc, t.flags)) =
    some (0x3000, fl 0 1 0 0 0) := by decide

/-- BR-19: CALL with SP=0001 (stack wraps) (R253). -/
theorem test_BR_19 :
    after { at100 with sp := 0x0001 } [0xCD, 0x00, 0x30]
      (fun t => (t.sp, t.pc, t.readByte 0x0000, t.readByte 0xFFFF, t.flags)) =
    some (0xFFFF, 0x3000, 0x01, 0x03, fl 0 0 0 0 0) := by decide

/-- BR-20: CALL at 0xFFFE (return address wraps to 0x0001) (R253). -/
theorem test_BR_20 :
    after (({ at100 with pc := 0xFFFE, sp := 0x2400 }).writeByte 0x0000 0x30) [0xCD, 0x00]
      (fun t => (t.sp, t.pc, t.readByte 0x23FF, t.readByte 0x23FE, t.flags)) =
    some (0x23FE, 0x3000, 0x00, 0x01, fl 0 0 0 0 0) := by decide

/-- BR-22: CNZ not taken (R254). -/
theorem test_BR_22 :
    after { at100 with sp := 0x2400, flags := fl 1 0 0 0 0 } [0xC4, 0x00, 0x30]
      (fun t => (t.pc, t.flags)) =
    some (0x0103, fl 1 0 0 0 0) := by decide

/-- BR-29: CPO taken (R254). -/
theorem test_BR_29 :
    after { at100 with sp := 0x2400, flags := fl 0 0 0 0 0 } [0xE4, 0x00, 0x30]
      (fun t => (t.sp, t.pc, t.readByte 0x23FF, t.readByte 0x23FE, t.flags)) =
    some (0x23FE, 0x3000, 0x01, 0x03, fl 0 0 0 0 0) := by decide

/-- BR-35: CM taken (R254). -/
theorem test_BR_35 :
    after { at100 with sp := 0x2400, flags := fl 0 1 0 0 0 } [0xFC, 0x00, 0x30]
      (fun t => (t.sp, t.pc, t.readByte 0x23FF, t.readByte 0x23FE, t.flags)) =
    some (0x23FE, 0x3000, 0x01, 0x03, fl 0 1 0 0 0) := by decide

/-- BR-37: RET (R255). -/
theorem test_BR_37 :
    after ((({ at100 with pc := 0x3000, sp := 0x23FE }).writeByte 0x23FE 0x03).writeByte 0x23FF 0x01) [0xC9]
      (fun t => (t.sp, t.pc, t.flags)) =
    some (0x2400, 0x0103, fl 0 0 0 0 0) := by decide

/-- BR-38: RET with SP=FFFF (pops FFFF, 0000) (R255). -/
theorem test_BR_38 :
    after ((({ at100 with pc := 0x3000, sp := 0xFFFF }).writeByte 0xFFFF 0x34).writeByte 0x0000 0x12) [0xC9]
      (fun t => (t.sp, t.pc, t.flags)) =
    some (0x0001, 0x1234, fl 0 0 0 0 0) := by decide

/-- BR-40: RNZ not taken (R256). -/
theorem test_BR_40 :
    after ((({ at100 with pc := 0x3000, sp := 0x23FE, flags := fl 1 0 0 0 0 }).writeByte 0x23FE 0x03).writeByte 0x23FF 0x01) [0xC0]
      (fun t => (t.pc, t.flags)) =
    some (0x3001, fl 1 0 0 0 0) := by decide

/-- BR-43: RNC taken (R256). -/
theorem test_BR_43 :
    after ((({ at100 with pc := 0x3000, sp := 0x23FE, flags := fl 0 0 0 0 0 }).writeByte 0x23FE 0x03).writeByte 0x23FF 0x01) [0xD0]
      (fun t => (t.sp, t.pc, t.flags)) =
    some (0x2400, 0x0103, fl 0 0 0 0 0) := by decide

/-- BR-49: RPE taken (R256). -/
theorem test_BR_49 :
    after ((({ at100 with pc := 0x3000, sp := 0x23FE, flags := fl 0 0 1 0 0 }).writeByte 0x23FE 0x03).writeByte 0x23FF 0x01) [0xE8]
      (fun t => (t.sp, t.pc, t.flags)) =
    some (0x2400, 0x0103, fl 0 0 1 0 0) := by decide

/-- BR-56: RST 1 (R257). -/
theorem test_BR_56 :
    after { at100 with pc := 0x1234, sp := 0x2400 } [0xCF]
      (fun t => (t.sp, t.pc, t.readByte 0x23FF, t.readByte 0x23FE, t.flags)) =
    some (0x23FE, 0x0008, 0x12, 0x35, fl 0 0 0 0 0) := by decide

/-- BR-62: RST 7 (R257). -/
theorem test_BR_62 :
    after { at100 with pc := 0x1234, sp := 0x2400 } [0xFF]
      (fun t => (t.sp, t.pc, t.readByte 0x23FF, t.readByte 0x23FE, t.flags)) =
    some (0x23FE, 0x0038, 0x12, 0x35, fl 0 0 0 0 0) := by decide

/-- BR-63: PCHL (R258). -/
theorem test_BR_63 :
    after { at100 with h := 0x41, l := 0x3E } [0xE9]
      (fun t => (t.pc, t.flags)) =
    some (0x413E, fl 0 0 0 0 0) := by decide

/-- BR-64: *JMP (0xCB) (R259). -/
theorem test_BR_64 :
    after at100 [0xCB, 0x00, 0x30]
      (fun t => (t.pc, t.flags)) =
    some (0x3000, fl 0 0 0 0 0) := by decide

/-- BR-65: *RET (0xD9) (R260). -/
theorem test_BR_65 :
    after ((({ at100 with pc := 0x3000, sp := 0x23FE }).writeByte 0x23FE 0x03).writeByte 0x23FF 0x01) [0xD9]
      (fun t => (t.sp, t.pc, t.flags)) =
    some (0x2400, 0x0103, fl 0 0 0 0 0) := by decide

/-- BR-66: *CALL (0xDD) (R261). -/
theorem test_BR_66 :
    after { at100 with sp := 0x2400 } [0xDD, 0x00, 0x30]
      (fun t => (t.sp, t.pc, t.readByte 0x23FF, t.readByte 0x23FE, t.flags)) =
    some (0x23FE, 0x3000, 0x01, 0x03, fl 0 0 0 0 0) := by decide

/-- SC-5: PUSH PSW, all flags 1 (R282). -/
theorem test_SC_5 :
    after { at100 with sp := 0x2400, a := 0xFF, flags := fl 1 1 1 1 1 } [0xF5]
      (fun t => (t.sp, t.pc, t.readByte 0x23FF, t.readByte 0x23FE, t.flags)) =
    some (0x23FE, 0x0101, 0xFF, 0x1F, fl 1 1 1 1 1) := by decide

/-- SC-6: PUSH B with SP=0000 (writes FFFF, FFFE) (R281). -/
theorem test_SC_6 :
    after { at100 with sp := 0x0000, b := 0x12, c := 0x34 } [0xC5]
      (fun t => (t.sp, t.pc, t.readByte 0xFFFF, t.readByte 0xFFFE, t.flags)) =
    some (0xFFFE, 0x0101, 0x12, 0x34, fl 0 0 0 0 0) := by decide

/-- SC-7: PUSH B with SP=0001 (writes 0000, FFFF) (R281). -/
theorem test_SC_7 :
    after { at100 with sp := 0x0001, b := 0x12, c := 0x34 } [0xC5]
      (fun t => (t.sp, t.pc, t.readByte 0x0000, t.readByte 0xFFFF, t.flags)) =
    some (0xFFFF, 0x0101, 0x12, 0x34, fl 0 0 0 0 0) := by decide

/-- SC-9: POP D (R283). -/
theorem test_SC_9 :
    after ((({ at100 with sp := 0x23FE }).writeByte 0x23FE 0x34).writeByte 0x23FF 0x12) [0xD1]
      (fun t => (t.d, t.e, t.sp, t.pc, t.flags)) =
    some (0x12, 0x34, 0x2400, 0x0101, fl 0 0 0 0 0) := by decide

/-- SC-11: POP PSW, FF/42 (bits 7-5 ignored) (R284). -/
theorem test_SC_11 :
    after ((({ at100 with sp := 0x23FE }).writeByte 0x23FE 0xFF).writeByte 0x23FF 0x42) [0xF1]
      (fun t => (t.a, t.sp, t.pc, t.flags)) =
    some (0x42, 0x2400, 0x0101, fl 1 1 1 1 1) := by decide

/-- SC-12: POP PSW, 15 (R284). -/
theorem test_SC_12 :
    after ((({ at100 with sp := 0x23FE }).writeByte 0x23FE 0x15).writeByte 0x23FF 0x00) [0xF1]
      (fun t => (t.sp, t.pc, t.flags)) =
    some (0x2400, 0x0101, fl 1 0 1 0 1) := by decide

/-- SC-14: POP H with SP=FFFF (R283). -/
theorem test_SC_14 :
    after ((({ at100 with sp := 0xFFFF }).writeByte 0xFFFF 0x78).writeByte 0x0000 0x56) [0xE1]
      (fun t => (t.h, t.l, t.sp, t.pc, t.flags)) =
    some (0x56, 0x78, 0x0001, 0x0101, fl 0 0 0 0 0) := by decide

/-- SC-15: XTHL (R285). -/
theorem test_SC_15 :
    after ((({ at100 with sp := 0x10AD, h := 0x0B, l := 0x3C }).writeByte 0x10AD 0xF0).writeByte 0x10AE 0x0D) [0xE3]
      (fun t => (t.h, t.l, t.pc, t.readByte 0x10AD, t.readByte 0x10AE, t.flags)) =
    some (0x0D, 0xF0, 0x0101, 0x3C, 0x0B, fl 0 0 0 0 0) := by decide

/-- SC-16: SPHL (R286). -/
theorem test_SC_16 :
    after { at100 with h := 0x50, l := 0x6C } [0xF9]
      (fun t => (t.sp, t.pc, t.flags)) =
    some (0x506C, 0x0101, fl 0 0 0 0 0) := by decide

/-- SC-19: OUT port (R288). -/
theorem test_SC_19 :
    after { at100 with a := 0x41 } [0xD3, 0x01]
      (fun t => (t.pc, t.events, t.flags)) =
    some (0x0102, [.out 0x01 0x41], fl 0 0 0 0 0) := by decide

/-- SC-20: EI (R289). -/
theorem test_SC_20 :
    after at100 [0xFB]
      (fun t => (t.pc, t.inte, t.flags)) =
    some (0x0101, true, fl 0 0 0 0 0) := by decide

/-- SC-22: DI (R290). -/
theorem test_SC_22 :
    after { at100 with inte := true } [0xF3]
      (fun t => (t.pc, t.inte, t.flags)) =
    some (0x0101, false, fl 0 0 0 0 0) := by decide

/-- SC-23: HLT (R291). -/
theorem test_SC_23 :
    after at100 [0x76]
      (fun t => (t.pc, t.events, t.flags)) =
    some (0x0101, [.halt], fl 0 0 0 0 0) := by decide

/-- SC-24: HLT at 0xFFFF (PC wraps) (R291). -/
theorem test_SC_24 :
    after { at100 with pc := 0xFFFF } [0x76]
      (fun t => (t.pc, t.events, t.flags)) =
    some (0x0000, [.halt], fl 0 0 0 0 0) := by decide

/-- SC-25: NOP (R292). -/
theorem test_SC_25 :
    after at100 [0x00]
      (fun t => (t.pc, t.flags)) =
    some (0x0101, fl 0 0 0 0 0) := by decide

/-- SC-26: *NOP (0x08) (R293). -/
theorem test_SC_26 :
    after at100 [0x08]
      (fun t => (t.pc, t.flags)) =
    some (0x0101, fl 0 0 0 0 0) := by decide

/-- SC-17: IN takes its byte from the environment, whatever it is (R287). -/
theorem test_SC_17 :
    after at100 [0xDB, 0x10] (fun t => (t.a, t.pc, t.events)) =
    some (Config.inputDraw 0 0x10, 0x0102, [.input 0x10]) := rfl

/-- FH-2: a load of 16 bytes at 0xFFF8 is refused (R68). -/
theorem test_FH_2 : State.reset.hostLoad 0xFFF8 (List.replicate 16 0x11) = none := by decide
/-- FH-3: a load of 8 bytes at 0xFFF8 is accepted (R68). -/
theorem test_FH_3 :
    (State.reset.hostLoad 0xFFF8 [1, 2, 3, 4, 5, 6, 7, 8]).map
      (fun t => (t.readByte 0xFFF8, t.readByte 0xFFFF, t.readByte 0x0000)) = some (1, 8, 0) := by decide
/-- FH-4: a load of no byte at 0x0000 is accepted and writes nothing (R68). -/
theorem test_FH_4 : State.reset.hostLoad 0 [] = some State.reset := by decide
/-- R328: a list of edits is made in its order, each edit of its own element. -/
theorem test_host_edits :
    (fun (t : State) => (t.h, t.l, t.sp, t.pc, t.flags, t.inte, t.inspectByte 0x0200))
      (at100.hostEdits [.reg .h 0x12, .reg .h 0x13, .sp 0x2400, .flags (fl 1 0 1 0 1), .inte true,
        .memory 0x0200 0x7E]) =
    (0x13, 0x00, 0x2400, 0x0100, fl 1 0 1 0 1, true, 0x7E) := by decide
/-- R328: an edit made before the second step is seen by the second step, MOV B,A. -/
theorem test_edit_takes_effect :
    (match hostRun 2 .never [[], [.reg .a 0x5A]] (placeAt at100 0x0100 [0x78, 0x47]) with
      | .running t => some (t.a, t.b)
      | _ => none) = some (0x5A, 0x5A) := by decide
/-- R343: the first step of a reset state runs the byte 0x00, NOP. -/
theorem test_reset_runs_nop :
    after State.reset [] (fun t => (t.pc, t.mem)) = some (0x0001, []) := by decide
/-- The word the host places is the one the next step runs. -/
theorem test_withFetchWord :
    (match step (State.reset.withFetchWord 8 0x3E) with
      | .next t => some (t.a, t.pc)
      | _ => none) = some (0x00, 0x0002) := by decide
/-- Storing 0x00 removes the cell, so equal memories are equal data (R343). -/
theorem test_memory_canonical :
    ((at100.writeByte 7 1).writeByte 3 2).writeByte 7 0 = at100.writeByte 3 2 := by decide

/-! ## Witnesses: for each statement with hypotheses, a state and operands that meet them -/

theorem witness_EncodeGivesBackTheDecodedBytes :
    decode [0x3E, 0x05, 0x09] = .ok (.mviA 0x05, [0x09]) := by decide

theorem witness_EveryOpcodeSelectsExactlyOneInstruction :
    encode .nop ++ [0xFF, 0xFF] = [0x00, 0xFF, 0xFF] := by decide

/-- A two-byte instruction that lies at 0xFFFF and 0x0000. -/
theorem witness_StepRunsTheInstructionAtPc :
    let s := placeAt { State.reset with pc := 0xFFFF } 0xFFFF [0x3E, 0x99]
    ∀ k : Nat, k < (encode (.mviA 0x99)).length →
      some (s.readByte (s.pc + BitVec.ofNat 16 k)) = (encode (.mviA 0x99))[k]? := by decide

theorem witness_EveryStepKeepsTheInvariant :
    Inv State.reset ∧ step State.reset = .next { State.reset with pc := 1 } := ⟨rfl, rfl⟩

theorem witness_NoStepChangesAuxCarryMode :
    step { State.reset with auxCarryMode := .intel } =
      .next { State.reset with auxCarryMode := .intel, pc := 1 } := rfl

/-- OUT, IN, HLT and an instruction without an event. -/
theorem witness_StepEmitsOnlyItsInstructionsEvent :
    [[0xD3, 0x01], [0xDB, 0x10], [0x76], [0x00]].map
      (fun bytes => decode (placeAt at100 0x0100 bytes).fetchBytes) =
    [.ok (.outPort 0x01, []), .ok (.inPort 0x10, []), .ok (.hlt, []), .ok (.nop, [])] ∧
    (after at100 [0xD3, 0x01] (fun _ => ())).isSome ∧ (after at100 [0xDB, 0x10] (fun _ => ())).isSome ∧
    (after at100 [0x76] (fun _ => ())).isSome ∧ (after at100 [0x00] (fun _ => ())).isSome :=
  ⟨by decide, rfl, rfl, by decide, by decide⟩

/-- A store at HL, and an address beside it; an instruction that stores nothing. -/
theorem witness_MemoryChangesOnlyAtStoredAddresses :
    exec (.mviM 0x7E) { at100 with h := 0x30 } =
      .next { at100 with h := 0x30, mem := [(0x3000, 0x7E)] } ∧
    (0x3001 : Word) ∉ storedAddrs (.mviM 0x7E) { at100 with h := 0x30 } ∧
    exec .nop at100 = .next at100 ∧ storedAddrs .nop at100 = [] :=
  ⟨rfl, by decide, rfl, by decide⟩

theorem witness_RegistersChangeOnlyAtDestinations :
    exec (.mviB 0x05) at100 = .next { at100 with b := 0x05 } ∧ Reg.c ∉ writtenRegs (.mviB 0x05) :=
  ⟨rfl, by decide⟩

/-- DAD names CY alone; INR in `preserve` names Z, S and P alone. -/
theorem witness_FlagsChangeOnlyWhereNamed :
    writtenFlags .preserve .dadB = fl 0 0 0 1 0 ∧ writtenFlags .preserve .inrB = fl 1 1 1 0 0 ∧
    exec .nop at100 = .next at100 ∧ writtenFlags .intel .nop = fl 0 0 0 0 0 :=
  ⟨by decide, by decide, rfl, by decide⟩

/-- NOP meets the hypotheses of every clause. -/
theorem witness_OtherStateChangesOnlyByItsInstructions :
    exec .nop at100 = .next at100 ∧ mayWriteSp .nop = false ∧ mayWritePc .nop = false ∧
    Instr.nop.opcode ≠ 0xFB ∧ Instr.nop.opcode ≠ 0xF3 ∧ Instr.nop.opcode ≠ 0xDB :=
  ⟨rfl, by decide, by decide, by decide, by decide, by decide⟩

/-- Two states with the same bytes of memory that differ elsewhere. -/
theorem witness_MemoryIsExactlyItsBytes :
    Inv (at100.writeByte 0xFFFF 1) ∧ Inv ({ at100 with a := 1 }.writeByte 0xFFFF 1) ∧
    ∀ x : Word, (at100.writeByte 0xFFFF 1).readByte x =
      ({ at100 with a := 1 }.writeByte 0xFFFF 1).readByte x := ⟨rfl, rfl, fun _ => rfl⟩

/-- At 0xFFFF the second byte is at 0x0000. -/
theorem witness_WordsAreLittleEndian : (1 : Word) ≠ 0xFFFF ∧ (1 : Word) ≠ 0xFFFF + 1 := by decide

theorem witness_MovCopiesSourceToDestination :
    isMov .movBB = true ∧ isMov .movEM = true ∧ isMov .movMD = true ∧ isMov .movAA = true := by decide

theorem witness_MviLoadsItsImmediate :
    fits (.mviB 0) 0xC7 0x06 = true ∧ fits (.mviM 0) 0xC7 0x06 = true ∧
    fits (.mviA 0) 0xC7 0x06 = true := by decide

theorem witness_LxiLoadsItsPair :
    fits (.lxiB 0) 0xCF 0x01 = true ∧ fits (.lxiSP 0) 0xCF 0x01 = true := by decide

theorem witness_AccumulatorLoadsAndStores :
    (Instr.lda 0).opcode = 0x3A ∧ (Instr.sta 0).opcode = 0x32 ∧
    fits .ldaxB 0xEF 0x0A = true ∧ fits .ldaxD 0xEF 0x0A = true ∧
    fits .staxB 0xEF 0x02 = true ∧ fits .staxD 0xEF 0x02 = true := by decide

theorem witness_LhldAndShldMoveHl : (1 : Word) ≠ 0xFFFF ∧ (1 : Word) ≠ 0xFFFF + 1 := by decide

theorem witness_AdditionWritesAccumulatorAndFlags :
    isAlu .addB 0 = true ∧ isAlu .addM 0 = true ∧ isAlu (.adi 0) 0 = true ∧
    isAlu .adcA 1 = true ∧ isAlu .adcM 1 = true ∧ isAlu (.aci 0) 1 = true := by decide

theorem witness_SubtractionWritesAccumulatorAndFlags :
    isAlu .subB 2 = true ∧ isAlu .subM 2 = true ∧ isAlu (.sui 0) 2 = true ∧
    isAlu .sbbA 3 = true ∧ isAlu .sbbM 3 = true ∧ isAlu (.sbi 0) 3 = true := by decide

theorem witness_IncrementWritesOperandAndKeepsCarry :
    fits .inrB 0xC7 0x04 = true ∧ fits .inrM 0xC7 0x04 = true ∧ fits .inrA 0xC7 0x04 = true := by decide

theorem witness_DecrementWritesOperandAndKeepsCarry :
    fits .dcrB 0xC7 0x05 = true ∧ fits .dcrM 0xC7 0x05 = true ∧ fits .dcrA 0xC7 0x05 = true := by decide

theorem witness_PairIncrementAndDecrement :
    fits .inxB 0xCF 0x03 = true ∧ fits .inxSP 0xCF 0x03 = true ∧
    fits .dcxB 0xCF 0x0B = true ∧ fits .dcxSP 0xCF 0x0B = true := by decide

theorem witness_DadAddsPairToHl :
    fits .dadB 0xCF 0x09 = true ∧ fits .dadSP 0xCF 0x09 = true := by decide

/-- An accumulator for each of the four corrections, at the edge of its range. -/
theorem witness_DaaCorrectsTheAccumulator :
    let low := fun (a : Byte) => a.toNat % 16 > 9
    let high := fun (a : Byte) => a.toNat / 16 > 9 ∨ (a.toNat / 16 ≥ 9 ∧ a.toNat % 16 > 9)
    (low 0x9A ∧ high 0x9A) ∧ (low 0x8A ∧ ¬ high 0x8A) ∧ (¬ low 0xA9 ∧ high 0xA9) ∧
    (¬ low 0x99 ∧ ¬ high 0x99) := by decide

theorem witness_AciThenDaaAddsDecimalInIntelMode :
    let s : State := { at100 with a := 0x99, auxCarryMode := .intel }
    s.auxCarryMode = .intel ∧ isBcd s.a ∧ isBcd 0x99 :=
  ⟨rfl, by unfold isBcd; decide, by unfold isBcd; decide⟩

theorem witness_BitwiseWritesAccumulatorAndClearsCarries :
    isAlu .anaB 4 = true ∧ isAlu (.ani 0) 4 = true ∧ isAlu .xraM 5 = true ∧
    isAlu (.xri 0) 5 = true ∧ isAlu .oraA 6 = true ∧ isAlu (.ori 0) 6 = true := by decide

theorem witness_CompareSetsFlagsAndKeepsAccumulator :
    isAlu .cmpB 7 = true ∧ isAlu .cmpM 7 = true ∧ isAlu (.cpi 0) 7 = true := by decide

theorem witness_JumpsLoadPc :
    fits (.jmp 0) 0xF7 0xC3 = true ∧ fits (.jmpCB 0) 0xF7 0xC3 = true ∧ Instr.pchl.opcode = 0xE9 := by
  decide

/-- Both values of the condition of JNZ and of JM. -/
theorem witness_ConditionalJumpFollowsItsCondition :
    fits (.jnz 0) 0xC7 0xC2 = true ∧ fits (.jm 0) 0xC7 0xC2 = true ∧
    conditionOfField (field53 (.jnz 0)) (fl 0 0 0 0 0) = true ∧
    conditionOfField (field53 (.jnz 0)) (fl 1 0 0 0 0) = false ∧
    conditionOfField (field53 (.jm 0)) (fl 0 1 0 0 0) = true ∧
    conditionOfField (field53 (.jm 0)) (fl 0 0 0 0 0) = false := by decide

theorem witness_CallsPushTheReturnAddress :
    isCall (.call 0x3000) = true ∧ (Instr.call 0x3000).imm16 = 0x3000 ∧ isCall (.callFD 0) = true ∧
    fits .rst0 0xC7 0xC7 = true ∧ fits .rst7 0xC7 0xC7 = true ∧
    BitVec.ofNat 16 (8 * (field53 .rst7).toNat) = 0x0038 ∧
    (0x2400 : Word) ≠ 0x2400 - 1 ∧ (0x2400 : Word) ≠ 0x2400 - 2 := by decide

theorem witness_ConditionalCallFollowsItsCondition :
    fits (.cnz 0) 0xC7 0xC4 = true ∧ fits (.cm 0) 0xC7 0xC4 = true ∧
    conditionOfField (field53 (.cnz 0)) (fl 0 0 0 0 0) = true ∧
    conditionOfField (field53 (.cnz 0)) (fl 1 0 0 0 0) = false := by decide

theorem witness_ReturnPopsPc :
    fits .ret 0xEF 0xC9 = true ∧ fits .retD9 0xEF 0xC9 = true := by decide

theorem witness_ConditionalReturnFollowsItsCondition :
    fits .rnz 0xC7 0xC0 = true ∧ fits .rm 0xC7 0xC0 = true ∧
    conditionOfField (field53 .rm) (fl 0 1 0 0 0) = true ∧
    conditionOfField (field53 .rm) (fl 0 0 0 0 0) = false := by decide

theorem witness_CallThenRetReturns :
    (0x2400 : Word) ≠ 0x2400 - 1 ∧ (0x2400 : Word) ≠ 0x2400 - 2 := by decide

/-- Each of the four pairs. -/
theorem witness_PushStoresItsPair :
    [Instr.pushB, .pushD, .pushH, .pushPSW].map
      (fun i => (fits i 0xCF 0xC5, stackPairOfField (field54 i))) =
    [(true, .bc), (true, .de), (true, .hl), (true, .psw)] := by decide

/-- Each of the four pairs. -/
theorem witness_PopLoadsItsPair :
    [Instr.popB, .popD, .popH, .popPSW].map
      (fun i => (fits i 0xCF 0xC1, stackPairOfField (field54 i))) =
    [(true, .bc), (true, .de), (true, .hl), (true, .psw)] := by decide

theorem witness_PushThenPopRestores :
    fits .pushPSW 0xCF 0xC5 = true ∧ fits .popPSW 0xCF 0xC1 = true ∧
    field54 .pushPSW = field54 .popPSW := by decide

theorem witness_XthlExchangesHlWithTheTopOfStack :
    (1 : Word) ≠ 0xFFFF ∧ (1 : Word) ≠ 0xFFFF + 1 := by decide

theorem witness_NopsChangeNothing :
    fits .nop 0xC7 0x00 = true ∧ fits .nop38 0xC7 0x00 = true := by decide

/-- Both clauses at their common edge, and an address in and beside the loaded range. -/
theorem witness_HostLoadWritesItsBytesOrIsRefused :
    0xFFFF + [(1 : Byte), 2].length > 65536 ∧ 0xFFFF + [(1 : Byte)].length ≤ 65536 ∧
    (0xFFFF ≤ (0xFFFF : Word).toNat ∧ (0xFFFF : Word).toNat < 0xFFFF + [(1 : Byte)].length) ∧
    ¬ (0xFFFF ≤ (0 : Word).toNat) := by decide

theorem witness_HostEditsReachEveryState :
    Inv State.reset ∧ Inv (at100.writeByte 0xFFFF 1) ∧
    (at100.writeByte 0xFFFF 1).auxCarryMode = State.reset.auxCarryMode ∧
    (at100.writeByte 0xFFFF 1).events = State.reset.events ∧
    (at100.writeByte 0xFFFF 1).draws = State.reset.draws := ⟨rfl, rfl, rfl, rfl, rfl⟩

/-- n = k and n = k + 1; a run that ends at its second step, an HLT, which is step j = 1 of the core,
after a NOP; the list of events ends in Halt before the run and does not end it. -/
theorem witness_EndOfRunIsTheHostsChoice :
    let s : State := { placeAt at100 0x0100 [0x00, 0x76] with events := [.halt] }
    (1 : Nat) ≤ 1 ∧ (1 : Nat) < 2 ∧
    hostRun 1 .atHalt [] s = .running { s with pc := 0x0101 } ∧
    hostRun 2 .atHalt [] s = .ended { s with pc := 0x0102, events := [.halt, .halt] } := by decide

/-- The premise that no step emits Halt, and the other side of the equivalence. -/
theorem witness_EndOfRun_no_halt :
    ∀ (i : Nat) (v w : State), i < 1 → core.run i State.reset = .next v → step v = .next w →
      eventsOfStep v w ≠ [.halt] := by
  intro i v w hi hv hw
  obtain rfl : i = 0 := by omega
  cases hv
  have h : step State.reset = .next { State.reset with pc := 1 } := rfl
  rw [h] at hw
  cases hw
  decide

theorem witness_EndOfRun_first_halt :
    let s := placeAt at100 0x0100 [0x76]
    ∃ (j : Nat) (u : State), j < 1 ∧ core.run j s = .next u ∧
      step u = .next { s with pc := 0x0101, events := [.halt] } ∧
      eventsOfStep u { s with pc := 0x0101, events := [.halt] } = [.halt] ∧
      ∀ (i : Nat) (v w : State), i < j → core.run i s = .next v → step v = .next w →
        eventsOfStep v w ≠ [.halt] :=
  ⟨0, _, by decide, rfl, rfl, rfl, fun i _ _ hi => absurd hi (Nat.not_lt_zero i)⟩

end Sys2Proof.Tests
end

section
/-! PROOFS of 10_state.md: reset, the flags byte, memory, and the step as fetch, decode and run. -/

namespace Sys2Proof.Machine.Proofs

open Sys2Proof.Laws Sys2Proof.Machine.Laws

/-! ## Reset -/

/-- Settles O1: every element of reset is a literal, and its memory lists no cell, so each address
reads 0x00. -/
theorem resetLeavesEveryElementZero : Obligations.ResetLeavesEveryElementZero := by
  unfold Obligations.ResetLeavesEveryElementZero
  refine ⟨fun r => ?_, rfl, rfl, rfl, rfl, fun x => rfl⟩
  cases r <;> rfl

/-! ## The flags byte -/

/-- The places of the five flags in the packed byte (R34). -/
theorem packF_bits (f : Flags) :
    (packF f)[0] = f.z ∧ (packF f)[1] = f.s ∧ (packF f)[2] = f.p ∧ (packF f)[3] = f.cy ∧
      (packF f)[4] = f.ac := by
  obtain ⟨z, s, p, cy, ac⟩ := f
  revert z s p cy ac
  decide

/-- The flag each place of a byte is unpacked to (R35). -/
theorem unpackF_eq (v : Byte) :
    unpackF v = { z := v[0], s := v[1], p := v[2], cy := v[3], ac := v[4] } := rfl

/-- Packing what was unpacked gives back bits 4 to 0; the mask leaves out bits 7 to 5. -/
theorem packF_unpackF_and_mask (v : Byte) : packF (unpackF v) &&& 0x1F = v &&& 0x1F := by
  have hbits := packF_bits (unpackF v)
  simp only [unpackF_eq] at hbits ⊢
  apply BitVec.eq_of_getElem_eq
  intro n hn
  interval_cases n <;> simp [hbits]

/-- Settles O22: the five places, and both round trips. -/
theorem flagsByteRoundTrips : Obligations.FlagsByteRoundTrips := by
  unfold Obligations.FlagsByteRoundTrips
  exact fun f v => ⟨packF_bits f, unpackF_packF f, unpackF_eq v, packF_unpackF_and_mask v⟩

/-! ## Memory -/

/-- The canonical form of a memory that lists a cell, as propositions. -/
theorem memWellFormedFrom_cons {lo k : Nat} {v : Byte} {rest : List Host.Cell} :
    memWellFormedFrom lo ((k, v) :: rest) = true ↔
      (lo ≤ k ∧ k < 65536 ∧ v ≠ 0x00) ∧ memWellFormedFrom (k + 1) rest = true := by
  simp [memWellFormedFrom]

/-- Below the first address a canonical memory may list, it reads 0x00. -/
theorem memLookup_of_lt {m : List Host.Cell} {lo x : Nat} (hm : memWellFormedFrom lo m = true)
    (hx : x < lo) : memLookup m x = 0x00 := by
  induction m generalizing lo with
  | nil => rfl
  | cons c rest ih =>
    obtain ⟨k, v⟩ := c
    obtain ⟨⟨hlo, -, -⟩, hrest⟩ := memWellFormedFrom_cons.mp hm
    rw [memLookup_cons, if_neg (by omega), ih hrest (by omega)]

/-- A canonical memory that reads something else than 0x00 at `x` may list `x`. -/
theorem le_of_memLookup_ne_zero {m : List Host.Cell} {lo x : Nat}
    (hm : memWellFormedFrom lo m = true) (hx : memLookup m x ≠ 0x00) : lo ≤ x :=
  Nat.le_of_not_lt fun hlt => hx (memLookup_of_lt hm hlt)

/-- The byte at the first address of a memory that lists a cell. -/
theorem memLookup_cons_self (k : Nat) (v : Byte) (rest : List Host.Cell) :
    memLookup ((k, v) :: rest) k = v := if_pos rfl

/-- Two memories in canonical form that read alike at all 65,536 addresses are the same list: the
first address of each is the least one that does not read 0x00. -/
theorem mem_eq_of_memLookup_eq {m n : List Host.Cell} {lo lo' : Nat}
    (hm : memWellFormedFrom lo m = true) (hn : memWellFormedFrom lo' n = true)
    (h : ∀ x < 65536, memLookup m x = memLookup n x) : m = n := by
  induction m generalizing n lo lo' with
  | nil =>
    cases n with
    | nil => rfl
    | cons c rest =>
      obtain ⟨⟨-, hk, hv⟩, -⟩ := memWellFormedFrom_cons.mp hn
      exact absurd ((h c.1 hk).trans (memLookup_cons_self ..)).symm hv
  | cons c rest ih =>
    obtain ⟨k, v⟩ := c
    obtain ⟨⟨-, hk, hv⟩, hrest⟩ := memWellFormedFrom_cons.mp hm
    have hreadk := h k hk
    rw [memLookup_cons_self] at hreadk
    cases n with
    | nil => exact absurd hreadk hv
    | cons c' rest' =>
      obtain ⟨k', v'⟩ := c'
      obtain ⟨⟨-, hk', hv'⟩, hrest'⟩ := memWellFormedFrom_cons.mp hn
      have hreadk' := h k' hk'
      rw [memLookup_cons_self] at hreadk'
      have hmk : memWellFormedFrom k ((k, v) :: rest) = true :=
        memWellFormedFrom_cons.mpr ⟨⟨le_rfl, hk, hv⟩, hrest⟩
      have hnk' : memWellFormedFrom k' ((k', v') :: rest') = true :=
        memWellFormedFrom_cons.mpr ⟨⟨le_rfl, hk', hv'⟩, hrest'⟩
      obtain rfl : k = k' := le_antisymm
        (le_of_memLookup_ne_zero hmk (hreadk' ▸ hv')) (le_of_memLookup_ne_zero hnk' (hreadk ▸ hv))
      obtain rfl : v = v' := hreadk.trans (memLookup_cons_self ..)
      have hrests : ∀ x < 65536, memLookup rest x = memLookup rest' x := by
        intro x hx
        by_cases hkx : k = x
        · rw [memLookup_of_lt hrest (by omega), memLookup_of_lt hrest' (by omega)]
        · simpa [memLookup_cons, hkx] using h x hx
      rw [ih hrest hrest' hrests]

/-- Settles O18: `memLookup` after a store, and canonical memories that read alike are equal. -/
theorem memoryIsExactlyItsBytes : Obligations.MemoryIsExactlyItsBytes := by
  unfold Obligations.MemoryIsExactlyItsBytes
  refine ⟨fun s x y v => ⟨rfl, readByte_writeByte s x y v⟩, fun s t hs ht hread => ?_⟩
  refine mem_eq_of_memLookup_eq hs ht fun x hx => ?_
  have h : (BitVec.ofNat 16 x).toNat = x := Nat.mod_eq_of_lt hx
  simpa only [State.readByte, h] using hread (BitVec.ofNat 16 x)

/-! ## Fetch and decode -/

/-- The opcode byte alone decides how many bytes the encoder lays out (R80). -/
theorem opcodeLength_opcode (i : Instr) : opcodeLength i.opcode = (encode i).length := by
  cases i <;> rfl

/-- The encoding of a 16-bit operand is read back, its low byte first (R84). -/
theorem decode_encoded_f3 {op : Byte} {mk : Word → Instr}
    (h : opcodeTable[op.toNat]? = some (.f3 mk)) (w : Word) (rest : List Byte) :
    decode (op :: loByte w :: hiByte w :: rest) = .ok (mk w, rest) := by
  rw [decode_of_f3 h, joinBytes_hiByte_loByte]

/-- Decoding the encoding of an instruction gives the instruction, its operands, and the bytes that
follow (R92, R99). -/
theorem decode_encode (i : Instr) (rest : List Byte) :
    decode (encode i ++ rest) = .ok (i, rest) := by
  cases i
  case lxiB | lxiD | lxiH | lxiSP | shld | lhld | sta | lda | jmp | jmpCB | jnz | jz | jnc | jc |
      jpo | jpe | jp | jm | call | callDD | callED | callFD | cnz | cz | cnc | cc | cpo | cpe |
      cp | cm =>
    exact decode_encoded_f3 rfl _ rest
  all_goals rfl

/-- The instruction a row gives for an operand, of which a row of two bytes takes the low byte. -/
def rowInstr : OpcodeRow → Word → Instr
  | .f1 i, _ => i
  | .f2 mk, w => mk (loByte w)
  | .f3 mk, w => mk w

/-- Row `n` of the opcode table holds an instruction whose opcode byte is `n` (R91). -/
theorem opcode_of_getElem?_opcodeTable {n : Nat} {row : OpcodeRow} (h : opcodeTable[n]? = some row)
    (w : Word) : (rowInstr row w).opcode = BitVec.ofNat 8 n := by
  obtain ⟨hn, -⟩ := List.getElem?_eq_some_iff.mp h
  rw [opcodeTable_length] at hn
  interval_cases n <;> (obtain rfl := Option.some.inj h; rfl)

/-- What is decoded has the opcode byte it was decoded from. -/
theorem opcode_of_decode {op : Byte} {bytes rest : List Byte} {i : Instr}
    (h : decode (op :: bytes) = .ok (i, rest)) : i.opcode = op := by
  obtain ⟨row, hrow⟩ := exists_opcodeRow op
  have hop (w : Word) : (rowInstr row w).opcode = op := by
    simpa using opcode_of_getElem?_opcodeTable hrow w
  cases row with
  | f1 j =>
    rw [decode_of_f1 hrow] at h
    cases h
    exact hop 0
  | f2 mk =>
    cases bytes with
    | nil => simp [decode, hrow, applyRow] at h
    | cons b2 bytes =>
      rw [decode_of_f2 hrow] at h
      cases h
      simpa only [rowInstr, loByte_joinBytes] using hop (joinBytes 0 b2)
  | f3 mk =>
    match bytes with
    | [] | [_] => simp [decode, hrow, applyRow] at h
    | b2 :: b3 :: bytes =>
      rw [decode_of_f3 hrow] at h
      cases h
      exact hop (joinBytes b3 b2)

/-- What a step runs: the instruction decoded from the bytes at PC, with PC past it (R100). -/
theorem step_of_decode {s : State} {i : Instr} {rest : List Byte}
    (h : decode s.fetchBytes = .ok (i, rest)) :
    step s = exec i (s.advancePc (opcodeLength (s.readByte s.pc))) := by
  rw [step, h]

/-- No opcode byte has length 0, so it is always fetched itself. -/
theorem exists_opcodeLength_eq_succ (op : Byte) : ∃ n, opcodeLength op = n + 1 := by
  obtain ⟨row, hrow⟩ := exists_opcodeRow op
  cases row <;> simp [opcodeLength, rowLength, hrow]

/-- The bytes fetched always decode, to an instruction that has the opcode byte at PC. -/
theorem exists_decode_fetchBytes (s : State) :
    ∃ i rest, decode s.fetchBytes = .ok (i, rest) ∧ i.opcode = s.readByte s.pc := by
  obtain ⟨i, rest, h⟩ := decode_take_opcodeLength (s.readByte s.pc) (s.readByte (s.pc + 1))
    (s.readByte (s.pc + 2))
  refine ⟨i, rest, h, ?_⟩
  obtain ⟨n, hn⟩ := exists_opcodeLength_eq_succ (s.readByte s.pc)
  rw [hn, List.take_succ_cons] at h
  exact opcode_of_decode h

/-- An instruction is one, two or three bytes long (R80). -/
theorem encode_shape (i : Instr) : ∃ tail, encode i = i.opcode :: tail ∧ tail.length ≤ 2 := by
  cases i <;> exact ⟨_, rfl, by simp⟩

/-- Where the bytes at PC onward are an encoding, they are what is fetched (R99). -/
theorem fetchBytes_eq_encode {s : State} {i : Instr}
    (h : ∀ k : Nat, k < (encode i).length →
      some (s.readByte (s.pc + BitVec.ofNat 16 k)) = (encode i)[k]?) :
    s.readByte s.pc = i.opcode ∧ s.fetchBytes = encode i := by
  have hlen := opcodeLength_opcode i
  obtain ⟨tail, htail, hshort⟩ := encode_shape i
  rw [htail] at h hlen ⊢
  have hop : s.readByte s.pc = i.opcode := by simpa using h 0 (by simp)
  refine ⟨hop, ?_⟩
  rw [State.fetchBytes, hop, hlen]
  match tail with
  | [] => simp
  | [b2] => simpa using h 1 (by simp)
  | [b2, b3] => simpa using And.intro (h 1 (by simp)) (h 2 (by simp))

/-- Settles O6: the bytes fetched are the encoding, and decoding it gives the instruction back. -/
theorem stepRunsTheInstructionAtPc : Obligations.StepRunsTheInstructionAtPc := by
  unfold Obligations.StepRunsTheInstructionAtPc
  intro s i h
  obtain ⟨hop, hfetch⟩ := fetchBytes_eq_encode h
  have hdecode : decode s.fetchBytes = .ok (i, []) := by
    rw [hfetch, ← List.append_nil (encode i), decode_encode]
  rw [step_of_decode hdecode, hop, opcodeLength_opcode]
  rfl

end Sys2Proof.Machine.Proofs
end

section
/-! PROOFS of 10_state.md: what each instruction leaves unchanged, and what none reads. -/

namespace Sys2Proof.Machine.Proofs

open Sys2Proof.Laws Sys2Proof.Machine.Laws

/-! ## Footprints: what an operation may write -/

/-- The flags `w` does not name are in `g` as in `f`. -/
def KeepsFlags (w f g : Flags) : Prop :=
  (w.z = false → g.z = f.z) ∧ (w.s = false → g.s = f.s) ∧ (w.p = false → g.p = f.p) ∧
  (w.cy = false → g.cy = f.cy) ∧ (w.ac = false → g.ac = f.ac)

/-- No flag. -/
def noFlags : Flags := ⟨false, false, false, false, false⟩

/-- CY alone. -/
def cyOnly : Flags := ⟨false, false, false, true, false⟩

/-- Z, S and P. -/
def zspOnly : Flags := ⟨true, true, true, false, false⟩

/-- All but AC. -/
def allButAc : Flags := ⟨true, true, true, true, false⟩

/-- All but CY. -/
def allButCy : Flags := ⟨true, true, true, false, true⟩

/-- All five. -/
def allFlags : Flags := ⟨true, true, true, true, true⟩

/-- What an operation may write, memory left out: the general registers, the flags in each of the
modes `preserve` and `intel`, SP, PC, INTE with the value written, the draws, and the events it
adds. -/
structure Footprint where
  regs : List Reg := []
  preserve : Flags := noFlags
  intel : Flags := noFlags
  sp : Bool := false
  pc : Bool := false
  inte : Option Bool := none
  draws : Bool := false
  events : List Event := []

/-- The flags named in a mode, of those named in each. -/
def flagsIn (preserve intel : Flags) : AuxCarryMode → Flags
  | .preserve => preserve
  | .intel => intel

/-- From `s` to `t` nothing but memory is changed outside the footprint. -/
structure Within (s t : State) (fp : Footprint) : Prop where
  regs : ∀ r : Reg, r ∉ fp.regs → t.getReg r = s.getReg r := by
    intro r hr; cases r <;> simp_all [State.getReg]
  flags : KeepsFlags (flagsIn fp.preserve fp.intel s.auxCarryMode) s.flags t.flags := by
    simp [KeepsFlags]
  sp : fp.sp = false → t.sp = s.sp := by simp
  pc : fp.pc = false → t.pc = s.pc := by simp
  inte : t.inte = fp.inte.getD s.inte := by simp
  draws : fp.draws = false → t.draws = s.draws := by simp
  events : t.events = s.events ++ fp.events := by simp
  auxCarryMode : t.auxCarryMode = s.auxCarryMode := by simp

/-! The flag writes. -/

theorem keepsFlags_setCy (m : AuxCarryMode) (f : Flags) (v : Bool) :
    KeepsFlags (flagsIn cyOnly cyOnly m) f { f with cy := v } := by
  cases m <;> simp [KeepsFlags, flagsIn, cyOnly]

theorem keepsFlags_all (m : AuxCarryMode) (f g : Flags) :
    KeepsFlags (flagsIn allFlags allFlags m) f g := by
  cases m <;> simp [KeepsFlags, flagsIn, allFlags]

/-- An arithmetic flag write keeps AC in `preserve` (R124). -/
theorem keepsFlags_setArithmeticAC (m : AuxCarryMode) (v : Bool) {f g : Flags} (h : g.ac = f.ac) :
    KeepsFlags (flagsIn allButAc allFlags m) f (setArithmeticAC m v g) := by
  cases m <;> simp [KeepsFlags, flagsIn, allFlags, allButAc, setArithmeticAC, h]

/-- One that keeps CY too is that of `inc8` and `dec8` (R126, R127). -/
theorem keepsFlags_setArithmeticAC_of_cy (m : AuxCarryMode) (v : Bool) {f g : Flags}
    (hac : g.ac = f.ac) (hcy : g.cy = f.cy) :
    KeepsFlags (flagsIn zspOnly allButCy m) f (setArithmeticAC m v g) := by
  cases m <;> simp [KeepsFlags, flagsIn, zspOnly, allButCy, setArithmeticAC, hac, hcy]

/-! The footprint of each operation, named or as the update it is. -/

section
variable (s : State)

theorem within_refl : Within s s {} := {}
theorem within_writeByte (x : Word) (v : Byte) : Within s (s.writeByte x v) {} := {}
theorem within_writeWord (x v : Word) : Within s (s.writeWord x v) {} := {}
theorem within_setA (v : Byte) : Within s { s with a := v } { regs := [.a] } := {}
theorem within_setBC (v : Word) : Within s (s.setBC v) { regs := [.b, .c] } := {}
theorem within_setDE (v : Word) : Within s (s.setDE v) { regs := [.d, .e] } := {}
theorem within_setHL (v : Word) : Within s (s.setHL v) { regs := [.h, .l] } := {}
theorem within_setSp (v : Word) : Within s { s with sp := v } { sp := true } := {}
theorem within_setInte (v : Bool) : Within s { s with inte := v } { inte := some v } := {}
theorem within_emit (x : Event) : Within s (s.emit x) { events := [x] } := {}
theorem within_exchangeHLDE : Within s (exchangeHLDE s) { regs := [.d, .e, .h, .l] } := {}
theorem within_exchangeTopHL : Within s (exchangeTopHL s) { regs := [.h, .l] } := {}
theorem within_inputToA (port : Byte) :
    Within s (inputToA port s) { regs := [.a], draws := true, events := [.input port] } :=
  { events := rfl }

theorem within_jump (x : Word) : Within s (s.jump x) { pc := true } := {}
theorem within_jumpIf (ccc : Cond) (x : Word) : Within s (jumpIf ccc x s) { pc := true } := {}
theorem within_call (x : Word) : Within s (s.call x) { sp := true, pc := true } := {}
theorem within_callIf (ccc : Cond) (x : Word) :
    Within s (callIf ccc x s) { sp := true, pc := true } := {}
theorem within_ret : Within s s.ret { sp := true, pc := true } := {}
theorem within_retIf (ccc : Cond) : Within s (retIf ccc s) { sp := true, pc := true } := {}

theorem within_push16 (v : Word) : Within s (s.push16 v) { sp := true } := {}
theorem within_dropTop_setBC (v : Word) :
    Within s (s.dropTop.setBC v) { regs := [.b, .c], sp := true } := {}
theorem within_dropTop_setDE (v : Word) :
    Within s (s.dropTop.setDE v) { regs := [.d, .e], sp := true } := {}
theorem within_dropTop_setHL (v : Word) :
    Within s (s.dropTop.setHL v) { regs := [.h, .l], sp := true } := {}
theorem within_dropTop_setPsw (v : Byte) (f : Flags) :
    Within s { s.dropTop with a := v, flags := f }
      { regs := [.a], preserve := allFlags, intel := allFlags, sp := true } :=
  { flags := keepsFlags_all .. }

theorem within_setReg (r : Reg) (v : Byte) : Within s (s.setReg r v) { regs := [r] } :=
  { regs := by simp +contextual }

theorem within_setOp (x : Sel) (v : Byte) : Within s (s.setOp x v) { regs := regsOfSel x } := by
  cases x with
  | m => exact within_writeByte s s.hl v
  | a => exact within_setReg s .a v
  | b => exact within_setReg s .b v
  | c => exact within_setReg s .c v
  | d => exact within_setReg s .d v
  | e => exact within_setReg s .e v
  | h => exact within_setReg s .h v
  | l => exact within_setReg s .l v

variable {s} {p q f : Flags}

theorem within_setFlags (h : KeepsFlags (flagsIn p q s.auxCarryMode) s.flags f) :
    Within s { s with flags := f } { preserve := p, intel := q } :=
  { flags := h }

theorem within_setFlags_setA (v : Byte) (h : KeepsFlags (flagsIn p q s.auxCarryMode) s.flags f) :
    Within s { s with flags := f, a := v } { regs := [.a], preserve := p, intel := q } :=
  { flags := h }

theorem within_setFlags_setOp (x : Sel) (v : Byte)
    (h : KeepsFlags (flagsIn p q s.auxCarryMode) s.flags f) :
    Within s ({ s with flags := f }.setOp x v) { regs := regsOfSel x, preserve := p, intel := q } :=
  { regs := (within_setOp { s with flags := f } x v).regs
    flags := by simpa using h }

theorem within_addToHL (v : Word) :
    Within s (addToHL v s) { regs := [.h, .l], preserve := cyOnly, intel := cyOnly } :=
  { flags := keepsFlags_setCy .. }

end

/-- What an instruction writes to INTE: EI sets it, DI clears it, no other writes it (R32). -/
def inteWritten (i : Instr) : Option Bool :=
  if i.opcode = 0xFB then some true else if i.opcode = 0xF3 then some false else none

theorem inteWritten_of_ei_or_di {i : Instr} (h : i.opcode = 0xFB ∨ i.opcode = 0xF3) :
    ∃ v, inteWritten i = some v := by
  unfold inteWritten
  split_ifs with hei hdi
  · exact ⟨true, rfl⟩
  · exact ⟨false, rfl⟩
  · exact (h.elim hei hdi).elim

theorem inteWritten_of_not_ei_or_di {i : Instr} (h : ¬ (i.opcode = 0xFB ∨ i.opcode = 0xF3)) :
    inteWritten i = none := by
  obtain ⟨hei, hdi⟩ := not_or.mp h
  rw [inteWritten, if_neg hei, if_neg hdi]

/-- The footprint of an instruction, from the tables of R21, R26, R28, R30, R32 and R317. -/
def footprint (i : Instr) (s : State) : Footprint where
  regs := writtenRegs i
  preserve := writtenFlags .preserve i
  intel := writtenFlags .intel i
  sp := mayWriteSp i
  pc := mayWritePc i
  inte := inteWritten i
  draws := i.opcode == 0xDB
  events := emittedEvents i s

/-- Every instruction stays within the footprint its opcode byte gives it: each is one operation,
whose footprint is the one the tables name. -/
theorem exec_within {i : Instr} {s t : State} (h : exec i s = .next t) :
    Within s t (footprint i s) := by
  cases i <;> obtain rfl := next_injective h
  -- The tables evaluate on a closed opcode byte; an operand has no part in it, so it goes first.
  case' lxiB | lxiD | lxiH | lxiSP | shld | lhld | sta | lda | jmp | jmpCB | jnz | jz | jnc | jc |
      jpo | jpe | jp | jm | call | callDD | callED | callFD | cnz | cz | cnc | cc | cpo | cpe |
      cp | cm | mviB | mviC | mviD | mviE | mviH | mviL | mviM | mviA | adi | aci | sui | sbi |
      ani | xri | ori | cpi | inPort | outPort =>
    simp [footprint, inteWritten, writtenRegs, writtenFlags, mayWriteSp, mayWritePc, emittedEvents,
      isMov, isAnyAlu, isAlu, isCall, fits, field53, field54]
  case nop | nop08 | nop10 | nop18 | nop20 | nop28 | nop30 | nop38 => exact within_refl _
  case mviB | mviC | mviD | mviE | mviH | mviL | mviM | mviA => exact within_setOp _ _ _
  case inrB | inrC | inrD | inrE | inrH | inrL | inrM | inrA | dcrB | dcrC | dcrD | dcrE | dcrH |
      dcrL | dcrM | dcrA =>
    exact within_setFlags_setOp _ _ (keepsFlags_setArithmeticAC_of_cy _ _ rfl rfl)
  case addB | addC | addD | addE | addH | addL | addM | addA | adcB | adcC | adcD | adcE | adcH |
      adcL | adcM | adcA | subB | subC | subD | subE | subH | subL | subM | subA | sbbB | sbbC |
      sbbD | sbbE | sbbH | sbbL | sbbM | sbbA | adi | aci | sui | sbi | daa =>
    exact within_setFlags_setA _ (keepsFlags_setArithmeticAC _ _ rfl)
  case anaB | anaC | anaD | anaE | anaH | anaL | anaM | anaA | xraB | xraC | xraD | xraE | xraH |
      xraL | xraM | xraA | oraB | oraC | oraD | oraE | oraH | oraL | oraM | oraA | ani | xri |
      ori =>
    exact within_setFlags_setA _ (keepsFlags_all ..)
  case cmpB | cmpC | cmpD | cmpE | cmpH | cmpL | cmpM | cmpA | cpi =>
    exact within_setFlags (keepsFlags_setArithmeticAC _ _ rfl)
  case rlc | rrc | ral | rar => exact within_setFlags_setA _ (keepsFlags_setCy ..)
  case stc | cmc => exact within_setFlags (keepsFlags_setCy ..)
  case cma | lda | ldaxB | ldaxD => exact within_setA _ _
  case lxiB | inxB | dcxB => exact within_setBC _ _
  case lxiD | inxD | dcxD => exact within_setDE _ _
  case lxiH | inxH | dcxH | lhld => exact within_setHL _ _
  case lxiSP | inxSP | dcxSP | sphl => exact within_setSp _ _
  case dadB | dadD | dadH | dadSP => exact within_addToHL _
  case sta | staxB | staxD => exact within_writeByte _ _ _
  case shld => exact within_writeWord _ _ _
  case xchg => exact within_exchangeHLDE _
  case xthl => exact within_exchangeTopHL _
  case jmp | jmpCB | pchl => exact within_jump _ _
  case jnz | jz | jnc | jc | jpo | jpe | jp | jm => exact within_jumpIf _ _ _
  case call | callDD | callED | callFD | rst0 | rst1 | rst2 | rst3 | rst4 | rst5 | rst6 | rst7 =>
    exact within_call _ _
  case cnz | cz | cnc | cc | cpo | cpe | cp | cm => exact within_callIf _ _ _
  case ret | retD9 => exact within_ret _
  case rnz | rz | rnc | rc | rpo | rpe | rp | rm => exact within_retIf _ _
  case pushB | pushD | pushH | pushPSW => exact within_push16 _ _
  case popB => exact within_dropTop_setBC _ _
  case popD => exact within_dropTop_setDE _ _
  case popH => exact within_dropTop_setHL _ _
  case popPSW => exact within_dropTop_setPsw _ _ _
  case ei | di => exact within_setInte _ _
  case inPort => exact within_inputToA _ _
  case outPort | hlt => exact within_emit _ _
  -- What is left is the 63 forms of MOV.
  all_goals exact within_setOp _ _ _

/-- Settles O15: the registers of the footprint are `writtenRegs`. -/
theorem registersChangeOnlyAtDestinations : Obligations.RegistersChangeOnlyAtDestinations := by
  unfold Obligations.RegistersChangeOnlyAtDestinations
  exact fun i s t h => (exec_within h).regs

/-- Settles O16: the flags of the footprint are `writtenFlags`, in each mode. -/
theorem flagsChangeOnlyWhereNamed : Obligations.FlagsChangeOnlyWhereNamed := by
  unfold Obligations.FlagsChangeOnlyWhereNamed
  intro i s t h
  have hflags := (exec_within h).flags
  cases hmode : s.auxCarryMode <;> rw [hmode] at hflags <;> exact hflags

/-- Settles O17: SP, PC, INTE, the draws, the events and the mode of the footprint. -/
theorem otherStateChangesOnlyByItsInstructions :
    Obligations.OtherStateChangesOnlyByItsInstructions := by
  unfold Obligations.OtherStateChangesOnlyByItsInstructions
  intro i s t h
  obtain ⟨-, -, hsp, hpc, hinte, hdraws, hevents, hmode⟩ := exec_within h
  refine ⟨hsp, hpc, fun hei hdi => ?_, fun hin => hdraws (by simpa [footprint] using hin), hevents,
    hmode⟩
  simpa only [footprint, inteWritten_of_not_ei_or_di (not_or.mpr ⟨hei, hdi⟩), Option.getD_none]
    using hinte

/-! ## What a step does not read -/

section
variable (ccc : Cond) (x : Word) (s : State) (es : List Event) (v : Bool)

/-! A conditional branch tests the flags alone. -/

theorem jumpIf_withEventsInte : jumpIf ccc x { s with events := es, inte := v } =
    { jumpIf ccc x s with events := es, inte := v } := by
  unfold jumpIf
  split <;> rfl

theorem callIf_withEventsInte : callIf ccc x { s with events := es, inte := v } =
    { callIf ccc x s with events := es, inte := v } := by
  unfold callIf
  split <;> rfl

theorem retIf_withEventsInte : retIf ccc { s with events := es, inte := v } =
    { retIf ccc s with events := es, inte := v } := by
  unfold retIf
  split <;> rfl

end

/-- No instruction reads the events or INTE: from a state that differs in them the next state
differs in them alone. -/
theorem exec_withEventsInte {i : Instr} {s t u : State} {es : List Event} {v : Bool}
    (h : exec i s = .next t) (hu : exec i { s with events := es, inte := v } = .next u) :
    u = { t with events := u.events, inte := u.inte } := by
  cases i <;> obtain rfl := next_injective h <;> obtain rfl := next_injective hu
  case jnz | jz | jnc | jc | jpo | jpe | jp | jm => rw [jumpIf_withEventsInte]
  case cnz | cz | cnc | cc | cpo | cpe | cp | cm => rw [callIf_withEventsInte]
  case rnz | rz | rnc | rc | rpo | rpe | rp | rm => rw [retIf_withEventsInte]
  all_goals rfl

/-- What an instruction makes of a state with other events and another INTE. -/
theorem exec_withEventsInte_eq {i : Instr} {s t : State} (h : exec i s = .next t) (es : List Event)
    (v : Bool) : exec i { s with events := es, inte := v } =
      .next { t with events := es ++ emittedEvents i s, inte := (inteWritten i).getD v } := by
  obtain ⟨u, hu⟩ := exec_answers_next { s with events := es, inte := v } i
  have hevents : u.events = es ++ emittedEvents i s := (exec_within hu).events
  have hinte : u.inte = (inteWritten i).getD v := (exec_within hu).inte
  rw [hu, exec_withEventsInte h hu, hinte, hevents]

/-- The step of a state, and that of the state with other events and another INTE: both run the
instruction decoded from the bytes at PC. -/
theorem step_withEventsInte (s : State) (es : List Event) (v : Bool) :
    ∃ (i : Instr) (t : State), i.opcode = s.readByte s.pc ∧ step s = .next t ∧
      t.events = s.events ++ emittedEvents i s ∧ t.inte = (inteWritten i).getD s.inte ∧
      step { s with events := es, inte := v } =
        .next { t with events := es ++ emittedEvents i s, inte := (inteWritten i).getD v } := by
  obtain ⟨i, rest, hdecode, hop⟩ := exists_decode_fetchBytes s
  obtain ⟨t, ht⟩ := exec_answers_next (s.advancePc (opcodeLength (s.readByte s.pc))) i
  refine ⟨i, t, hop, (step_of_decode hdecode).trans ht, (exec_within ht).events,
    (exec_within ht).inte, ?_⟩
  have hdecode' : decode { s with events := es, inte := v }.fetchBytes = .ok (i, rest) := hdecode
  exact (step_of_decode hdecode').trans (exec_withEventsInte_eq ht es v)

/-- Settles O12: the new events are those the instruction emits. -/
theorem earlierEventsAreNeverRead : Obligations.EarlierEventsAreNeverRead := by
  unfold Obligations.EarlierEventsAreNeverRead
  intro s es
  obtain ⟨i, t, -, hstep, hevents, hinte, hstep'⟩ := step_withEventsInte s es s.inte
  refine ⟨t, emittedEvents i s, ?_, ?_⟩
  · rw [hstep, ← hevents]
  · rw [hstep', ← hinte]

/-- Settles O13: the two steps differ in INTE alone, and EI and DI set it whatever it was. -/
theorem interruptEnableIsNeverRead : Obligations.InterruptEnableIsNeverRead := by
  unfold Obligations.InterruptEnableIsNeverRead
  intro s v
  obtain ⟨i, t, hop, hstep, hevents, hinte, hstep'⟩ := step_withEventsInte s s.events v
  refine ⟨t, hstep, ?_⟩
  rw [← hevents] at hstep'
  rw [hstep', ← hop]
  by_cases h : i.opcode = 0xFB ∨ i.opcode = 0xF3
  · obtain ⟨w, hw⟩ := inteWritten_of_ei_or_di h
    rw [hw, Option.getD_some] at hinte ⊢
    rw [if_pos h, ← hinte]
  · rw [inteWritten_of_not_ei_or_di h, if_neg h, Option.getD_none]

end Sys2Proof.Machine.Proofs
end

section
/-! PROOFS of 20_memory.md: the canonical form, the stores of each instruction, 16-bit values, and
host loads. -/

namespace Sys2Proof.Machine.Proofs

open Sys2Proof.Laws Sys2Proof.Machine.Laws

/-! ## What an instruction stores -/

/-- From memory `m` to memory `n` bytes are stored at no address but those listed, and the canonical
form is kept. -/
structure StoresOnlyAt (m n : List Host.Cell) (addrs : List Word) : Prop where
  kept : ∀ x : Word, x ∉ addrs → memLookup n x.toNat = memLookup m x.toNat
  wf : Memory.wf m = true → Memory.wf n = true

section
variable {m n o : List Host.Cell} {addrs addrs' : List Word}

theorem storesOnlyAt_of_eq (h : n = m) : StoresOnlyAt m n addrs where
  kept _ _ := by rw [h]
  wf hm := h ▸ hm

theorem storesOnlyAt_memStore (m : List Host.Cell) (x : Word) (v : Byte) :
    StoresOnlyAt m (memStore m x.toNat v) [x] where
  kept y hy := by
    have hne : y.toNat ≠ x.toNat := fun h => hy (List.mem_singleton.mpr (BitVec.eq_of_toNat_eq h))
    rw [memLookup_memStore, if_neg hne]
  wf := memStore_wf v x.isLt

theorem StoresOnlyAt.append (h : StoresOnlyAt m n addrs) (h' : StoresOnlyAt n o addrs') :
    StoresOnlyAt m o (addrs ++ addrs') where
  kept x hx := by
    obtain ⟨hmn, hno⟩ := not_or.mp (List.mem_append.not.mp hx)
    exact (h'.kept x hno).trans (h.kept x hmn)
  wf := h'.wf ∘ h.wf

theorem storesOnlyAt_memStore_memStore (m : List Host.Cell) (x y : Word) (v w : Byte) :
    StoresOnlyAt m (memStore (memStore m x.toNat v) y.toNat w) [x, y] :=
  (storesOnlyAt_memStore m x v).append (storesOnlyAt_memStore _ y w)

end

/-- The table of R88: 0 to 7 are NZ, Z, NC, C, PO, PE, P, M. -/
def condOfField (x : BitVec 3) : Cond :=
  match x.toNat with
  | 0 => .nz
  | 1 => .z
  | 2 => .nc
  | 3 => .c
  | 4 => .po
  | 5 => .pe
  | 6 => .p
  | _ => .m

/-- The condition a field names holds by the table exactly when the branch unit finds it so. -/
theorem conditionOfField_eq (x : BitVec 3) (f : Flags) :
    conditionOfField x f = condHolds (condOfField x) f := by
  obtain ⟨z, s, p, cy, ac⟩ := f
  revert x z s p cy ac
  decide

/-- A conditional call stores its two bytes when it is taken, and nothing else (R254). -/
theorem storesOnlyAt_callIf (ccc : Cond) (x : Word) (s : State) :
    StoresOnlyAt s.mem (callIf ccc x s).mem
      (if condHolds ccc s.flags then [s.sp - 1, s.sp - 2] else []) := by
  by_cases h : condHolds ccc s.flags = true
  · rw [callIf_of_holds x h, if_pos h]
    exact storesOnlyAt_memStore_memStore ..
  · rw [callIf_of_not x (Bool.eq_false_of_not_eq_true h), if_neg h]
    exact storesOnlyAt_of_eq rfl

/-- Every instruction stores at the addresses `storedAddrs` names for its opcode byte and at no
other, and keeps the canonical form: each stores one byte, two bytes or nothing (R57). -/
theorem exec_storesOnlyAt {i : Instr} {s t : State} (h : exec i s = .next t) :
    StoresOnlyAt s.mem t.mem (storedAddrs i s) := by
  cases i <;> obtain rfl := next_injective h
  -- `storedAddrs` evaluates on a closed opcode byte; an operand goes first.
  case' sta | shld | mviM | call | callDD | callED | callFD | cnz | cz | cnc | cc | cpo | cpe | cp |
      cm =>
    simp [storedAddrs, isMov, isCall, fits, field53, conditionOfField_eq]
  case sta | staxB | staxD | mviM | inrM | dcrM | movMB | movMC | movMD | movME | movMH | movML |
      movMA =>
    exact storesOnlyAt_memStore ..
  case shld | xthl | call | callDD | callED | callFD | rst0 | rst1 | rst2 | rst3 | rst4 | rst5 |
      rst6 | rst7 | pushB | pushD | pushH | pushPSW =>
    exact storesOnlyAt_memStore_memStore ..
  case cnz | cz | cnc | cc | cpo | cpe | cp | cm => exact storesOnlyAt_callIf ..
  case jnz | jz | jnc | jc | jpo | jpe | jp | jm => exact storesOnlyAt_of_eq (jumpIf_mem ..)
  case rnz | rz | rnc | rc | rpo | rpe | rp | rm => exact storesOnlyAt_of_eq (retIf_mem ..)
  -- What is left stores nothing.
  all_goals exact storesOnlyAt_of_eq rfl

/-- Settles O14: an address that is not stored at is looked up as before. -/
theorem memoryChangesOnlyAtStoredAddresses : Obligations.MemoryChangesOnlyAtStoredAddresses := by
  unfold Obligations.MemoryChangesOnlyAtStoredAddresses
  exact fun i s t h => (exec_storesOnlyAt h).kept

/-! ## The canonical form -/

/-- Settles O8: reset lists no cell. -/
theorem resetMeetsTheInvariant : Obligations.ResetMeetsTheInvariant := by
  unfold Obligations.ResetMeetsTheInvariant
  rfl

/-- Settles O9: a step runs one instruction, from a state with the same memory. -/
theorem everyStepKeepsTheInvariant : Obligations.EveryStepKeepsTheInvariant := by
  unfold Obligations.EveryStepKeepsTheInvariant
  intro s t hs h
  obtain ⟨i, rest, hdecode, -⟩ := exists_decode_fetchBytes s
  rw [step_of_decode hdecode] at h
  exact (exec_storesOnlyAt h).wf hs

/-! ## 16-bit values -/

/-- Settles O19: a read of one byte after the write of a word, at each of the two addresses and at
any other. -/
theorem wordsAreLittleEndian : Obligations.WordsAreLittleEndian := by
  unfold Obligations.WordsAreLittleEndian
  intro s x v
  have hlo : (s.writeWord x v).readByte x = loByte v := by
    rw [readByte_writeWord, if_neg (word_ne_add_one x).symm, if_pos rfl]
  have hhi : (s.writeWord x v).readByte (x + 1) = hiByte v := by
    rw [readByte_writeWord, if_pos rfl]
  refine ⟨hlo, hhi, fun y hx hx1 => ?_, ?_⟩
  · rw [readByte_writeWord, if_neg hx1, if_neg hx]
  · rw [State.readWord, hlo, hhi, joinBytes_hiByte_loByte]

/-! ## Host loads -/

/-- A read after a load: the byte loaded inside the range, and as before outside. -/
theorem memLookup_writeBytesAt (m : List Host.Cell) (x y : Nat) (bytes : List Byte) :
    memLookup (writeBytesAt m x bytes) y =
      if x ≤ y ∧ y < x + bytes.length then bytes.getD (y - x) 0 else memLookup m y := by
  induction bytes generalizing m x with
  | nil => rw [writeBytesAt, if_neg (by simp)]
  | cons v rest ih =>
    rw [writeBytesAt, ih, memLookup_memStore, List.length_cons]
    by_cases hxy : y = x
    · rw [if_neg (by omega), if_pos hxy, if_pos (by omega), hxy, Nat.sub_self, List.getD_cons_zero]
    · rw [if_neg hxy]
      by_cases hin : x + 1 ≤ y ∧ y < x + 1 + rest.length
      · have hsub : y - x = y - (x + 1) + 1 := by omega
        rw [if_pos hin, if_pos (by omega), hsub, List.getD_cons_succ]
      · rw [if_neg hin, if_neg (by omega)]

/-- Settles O55: the load is made exactly when the range ends by 65,536. -/
theorem hostLoadWritesItsBytesOrIsRefused : Obligations.HostLoadWritesItsBytesOrIsRefused := by
  unfold Obligations.HostLoadWritesItsBytesOrIsRefused
  intro s offset bytes
  exact ⟨fun h => if_neg (Nat.not_le.mpr h), fun h =>
    ⟨_, if_pos h, rfl, fun x => memLookup_writeBytesAt s.mem offset x.toNat bytes⟩⟩

end Sys2Proof.Machine.Proofs
end

section
/-! PROOFS of 30_encoding.md: decoding and encoding are inverse, every opcode byte selects one
instruction, and no step stops. -/

namespace Sys2Proof.Machine.Proofs

open Sys2Proof.Laws Sys2Proof.Machine.Laws

/-! ## Decoding an encoding -/

/-- Settles O3: the opcode byte finds the row, and the row reads the operand back. -/
theorem decodeReadsBackEveryEncoding : Obligations.DecodeReadsBackEveryEncoding := by
  unfold Obligations.DecodeReadsBackEveryEncoding
  exact decode_encode

/-! ## Encoding what was decoded -/

/-- The bytes that stand after the opcode in `rowInstr row w`, by the row's format (R81, R84). -/
def operandBytes : OpcodeRow → Word → List Byte
  | .f1 _, _ => []
  | .f2 _, w => [loByte w]
  | .f3 _, w => [loByte w, hiByte w]

/-- The encoder lays out the instruction of row `n` as opcode byte `n` and its operand (R91). -/
theorem encode_rowInstr {n : Nat} {row : OpcodeRow} (h : opcodeTable[n]? = some row) (w : Word) :
    encode (rowInstr row w) = BitVec.ofNat 8 n :: operandBytes row w := by
  obtain ⟨hn, -⟩ := List.getElem?_eq_some_iff.mp h
  rw [opcodeTable_length] at hn
  interval_cases n <;> (obtain rfl := Option.some.inj h; rfl)

/-- What a row is applied to, where it has an answer: the operand's bytes, then what is left. -/
theorem applyRow_eq_some {row : OpcodeRow} {bytes rest : List Byte} {i : Instr}
    (h : applyRow row bytes = some (i, rest)) :
    ∃ w, i = rowInstr row w ∧ bytes = operandBytes row w ++ rest := by
  cases row with
  | f1 j =>
    obtain ⟨rfl, rfl⟩ := Prod.mk.inj (Option.some.inj h)
    exact ⟨0, rfl, rfl⟩
  | f2 mk =>
    match bytes with
    | b2 :: bytes =>
      obtain ⟨rfl, rfl⟩ := Prod.mk.inj (Option.some.inj h)
      exact ⟨joinBytes 0 b2, by simp [rowInstr], by simp [operandBytes]⟩
  | f3 mk =>
    match bytes with
    | b2 :: b3 :: bytes =>
      obtain ⟨rfl, rfl⟩ := Prod.mk.inj (Option.some.inj h)
      exact ⟨joinBytes b3 b2, rfl, by simp [operandBytes]⟩

/-- A decoding that answers applied the row of the first byte to the bytes after it. -/
theorem decode_eq_ok {bytes rest : List Byte} {i : Instr} (h : decode bytes = .ok (i, rest)) :
    ∃ op tail row, bytes = op :: tail ∧ opcodeTable[op.toNat]? = some row ∧
      applyRow row tail = some (i, rest) := by
  match bytes with
  | op :: tail =>
    obtain ⟨row, hrow⟩ := exists_opcodeRow op
    refine ⟨op, tail, row, rfl, hrow, ?_⟩
    simp only [decode, hrow] at h
    split at h
    · cases h
    · next r happly => rw [happly, Except.ok.inj h]

/-- Settles O4: the bytes are a row's opcode and operand, and the encoder lays out that row so. -/
theorem encodeGivesBackTheDecodedBytes : Obligations.EncodeGivesBackTheDecodedBytes := by
  unfold Obligations.EncodeGivesBackTheDecodedBytes
  intro bytes rest i h
  obtain ⟨op, tail, row, rfl, hrow, happly⟩ := decode_eq_ok h
  obtain ⟨w, rfl, rfl⟩ := applyRow_eq_some happly
  rw [encode_rowInstr hrow, BitVec.ofNat_toNat, BitVec.setWidth_eq, List.cons_append]

/-! ## Every opcode byte -/

/-- Three bytes are enough for any opcode, so they always decode (R92, R95). -/
theorem exists_decode_three (op b2 b3 : Byte) : ∃ i rest, decode [op, b2, b3] = .ok (i, rest) := by
  obtain ⟨row, hrow⟩ := exists_opcodeRow op
  cases row with
  | f1 i => exact ⟨_, _, decode_of_f1 hrow _⟩
  | f2 mk => exact ⟨_, _, decode_of_f2 hrow _ _⟩
  | f3 mk => exact ⟨_, _, decode_of_f3 hrow _ _ _⟩

/-- Settles O5: what encodes to the bytes is what decoding the bytes gives. -/
theorem everyOpcodeSelectsExactlyOneInstruction :
    Obligations.EveryOpcodeSelectsExactlyOneInstruction := by
  unfold Obligations.EveryOpcodeSelectsExactlyOneInstruction
  intro op b2 b3
  obtain ⟨i, rest, h⟩ := exists_decode_three op b2 b3
  refine ⟨i, rest, h, opcode_of_decode h, fun j rest' hj => ?_⟩
  have hdecode : decode [op, b2, b3] = .ok (j, rest') := hj ▸ decode_encode j rest'
  exact Prod.mk.inj (Except.ok.inj (hdecode.symm.trans h))

/-- Settles O7: the bytes fetched always decode, and every instruction answers a next state. -/
theorem everyStepGivesANextState : Obligations.EveryStepGivesANextState := by
  unfold Obligations.EveryStepGivesANextState
  intro s
  obtain ⟨i, rest, hdecode, -⟩ := exists_decode_fetchBytes s
  rw [step_of_decode hdecode]
  exact exec_answers_next _ i

/-! ## Words of the spec -/

/-- Settles O2: each word evaluates to its instruction. -/
theorem specWordsDecodeToTheirInstructions : Obligations.SpecWordsDecodeToTheirInstructions := by
  unfold Obligations.SpecWordsDecodeToTheirInstructions
  exact ⟨rfl, rfl, rfl, rfl, rfl, rfl, rfl, rfl, rfl, rfl⟩

end Sys2Proof.Machine.Proofs
end

section
/-! PROOFS of 40_alu_and_addressing.md: operands and pairs, the mode of the auxiliary carry, the
ALU, decimal addition, and the stack. -/

namespace Sys2Proof.Machine.Proofs

open Sys2Proof.Laws Sys2Proof.Machine.Laws

/-! ## Operands and pairs -/

/-- A selector's operand reads back as written: a write to the byte at HL leaves HL (R128, R129). -/
theorem getOp_setOp (s : State) (x : Sel) (v : Byte) : (s.setOp x v).getOp x = v := by
  cases x with
  | m => exact (readByte_setOp s .m v s.hl).trans (if_pos ⟨rfl, rfl⟩)
  | a | b | c | d | e | h | l => rfl

/-- Settles O20: each selector is evaluated, and what it writes reads back. -/
theorem selectorsNameOneLocation : Obligations.SelectorsNameOneLocation := by
  unfold Obligations.SelectorsNameOneLocation
  exact fun s v => ⟨⟨rfl, rfl, rfl, rfl, rfl, rfl, rfl, rfl⟩,
    ⟨rfl, rfl, rfl, rfl, rfl, rfl, rfl, rfl⟩, fun x => getOp_setOp s x v⟩

/-- A pair reads back as written: the two halves of a 16-bit value join to it (R24, R130). -/
theorem getRP_setRP (s : State) (p : Pair) (v : Word) : (s.setRP p v).getRP p = v := by
  cases p with
  | sp => rfl
  | bc | de | hl => exact joinBytes_hiByte_loByte v

/-- Settles O21: each pair is evaluated, and what is written to it reads back. -/
theorem pairsAreTheirRegisters : Obligations.PairsAreTheirRegisters := by
  unfold Obligations.PairsAreTheirRegisters
  exact fun s v => ⟨⟨rfl, rfl, rfl, rfl⟩, ⟨rfl, rfl, rfl, rfl⟩, fun p => getRP_setRP s p v⟩

/-! ## The mode of the auxiliary carry -/

/-- Settles O10: a step runs one instruction, and no footprint holds AUX_CARRY_MODE. -/
theorem noStepChangesAuxCarryMode : Obligations.NoStepChangesAuxCarryMode := by
  unfold Obligations.NoStepChangesAuxCarryMode
  intro s t h
  obtain ⟨i, rest, hdecode, -⟩ := exists_decode_fetchBytes s
  rw [step_of_decode hdecode] at h
  exact (exec_within h).auxCarryMode

/-! ## The operation an opcode byte names -/

/-- The ALU operation that field ooo names, on A and a second operand (R90). -/
def aluOp (ooo : BitVec 3) (v : Byte) (s : State) : State :=
  match ooo.toNat with
  | 0 => addToA v false s
  | 1 => addToA v s.flags.cy s
  | 2 => subFromA v false s
  | 3 => subFromA v s.flags.cy s
  | 4 => andIntoA v s
  | 5 => xorIntoA v s
  | 6 => orIntoA v s
  | _ => compareA v s

/-- An ALU instruction in any form runs the operation its field ooo names on its operand. -/
theorem exec_of_isAnyAlu {i : Instr} (h : isAnyAlu i = true) (s : State) :
    exec i s = .next (aluOp (field53 i) (aluOperand i s) s) := by
  cases i
  case addB | addC | addD | addE | addH | addL | addM | addA | adcB | adcC | adcD | adcE | adcH |
      adcL | adcM | adcA | subB | subC | subD | subE | subH | subL | subM | subA | sbbB | sbbC |
      sbbD | sbbE | sbbH | sbbL | sbbM | sbbA | anaB | anaC | anaD | anaE | anaH | anaL | anaM |
      anaA | xraB | xraC | xraD | xraE | xraH | xraL | xraM | xraA | oraB | oraC | oraD | oraE |
      oraH | oraL | oraM | oraA | cmpB | cmpC | cmpD | cmpE | cmpH | cmpL | cmpM | cmpA =>
    rfl
  case adi | aci | sui | sbi | ani | xri | ori | cpi =>
    -- The field evaluates on the closed opcode byte, and the operand is the immediate.
    simp [aluOperand, field53, fits]
    rfl
  all_goals simp [isAnyAlu, fits, Instr.opcode, encode] at h

/-- An opcode byte of ALU operation `k` is an ALU opcode byte with field ooo `k` (R82, R90). -/
theorem isAnyAlu_and_field53_of_isAlu {i : Instr} {k : Nat} (hk : k < 8) (h : isAlu i k = true) :
    isAnyAlu i = true ∧ field53 i = BitVec.ofNat 3 k := by
  unfold isAlu isAnyAlu field53 fits at *
  generalize i.opcode = op at *
  interval_cases k <;> (revert op; decide)

/-- ALU operation `k` of R90 in any form runs on A and its operand. -/
theorem exec_of_isAlu {i : Instr} {k : Nat} (hk : k < 8) (h : isAlu i k = true) (s : State) :
    exec i s = .next (aluOp (BitVec.ofNat 3 k) (aluOperand i s) s) := by
  obtain ⟨hany, hfield⟩ := isAnyAlu_and_field53_of_isAlu hk h
  rw [exec_of_isAnyAlu hany, hfield]

/-- Settles O29: ADD and ADC run `addToA`, whose sum and flags are those of `add8`. -/
theorem additionWritesAccumulatorAndFlags : Obligations.AdditionWritesAccumulatorAndFlags := by
  unfold Obligations.AdditionWritesAccumulatorAndFlags
  intro i s cin hcin
  have hexec : exec i s = .next (addToA (aluOperand i s) cin s) := by
    rcases hcin with ⟨hadd, rfl⟩ | ⟨hadc, rfl⟩
    · exact exec_of_isAlu (by decide) hadd s
    · exact exec_of_isAlu (by decide) hadc s
  rw [hexec, addToA, add8_eq]
  rfl

/-- Settles O37: ANA, XRA and ORA run `logicIntoA` on their bitwise result. -/
theorem bitwiseWritesAccumulatorAndClearsCarries :
    Obligations.BitwiseWritesAccumulatorAndClearsCarries := by
  unfold Obligations.BitwiseWritesAccumulatorAndClearsCarries
  intro i s r v hr
  have hexec : exec i s = .next (logicIntoA r s) := by
    rcases hr with ⟨hana, rfl⟩ | ⟨hxra, rfl⟩ | ⟨hora, rfl⟩
    · exact exec_of_isAlu (by decide) hana s
    · exact exec_of_isAlu (by decide) hxra s
    · exact exec_of_isAlu (by decide) hora s
  rw [hexec]
  rfl

/-- INR in any form increments the operand its field ddd selects. -/
theorem exec_of_fits_inr {i : Instr} (h : fits i 0xC7 0x04 = true) (s : State) :
    exec i s = .next (incOp (selOfField (field53 i)) s) := by
  cases i
  case inrB | inrC | inrD | inrE | inrH | inrL | inrM | inrA => rfl
  all_goals simp [fits, Instr.opcode, encode] at h

/-- DCR in any form decrements the operand its field ddd selects. -/
theorem exec_of_fits_dcr {i : Instr} (h : fits i 0xC7 0x05 = true) (s : State) :
    exec i s = .next (decOp (selOfField (field53 i)) s) := by
  cases i
  case dcrB | dcrC | dcrD | dcrE | dcrH | dcrL | dcrM | dcrA => rfl
  all_goals simp [fits, Instr.opcode, encode] at h

/-- Settles O31: INR runs `incOp`, whose result and flags are those of `inc8`. -/
theorem incrementWritesOperandAndKeepsCarry : Obligations.IncrementWritesOperandAndKeepsCarry := by
  unfold Obligations.IncrementWritesOperandAndKeepsCarry
  intro i s h
  rw [exec_of_fits_inr h, incOp, inc8_eq]
  rfl

/-- Settles O32: DCR runs `decOp`, whose result and flags are those of `dec8`. -/
theorem decrementWritesOperandAndKeepsCarry : Obligations.DecrementWritesOperandAndKeepsCarry := by
  unfold Obligations.DecrementWritesOperandAndKeepsCarry
  intro i s h
  rw [exec_of_fits_dcr h, decOp, dec8_eq]
  rfl

/-! ## Decimal addition -/

/-- Whether DAA corrects the low digit (R200). -/
def daaLow (a : Byte) (f : Flags) : Bool := f.ac || decide (a.toNat % 16 > 9)

/-- Whether DAA corrects the high digit (R200). -/
def daaHigh (a : Byte) (f : Flags) : Bool :=
  f.cy || decide (a.toNat / 16 > 9) || (decide (a.toNat / 16 ≥ 9) && decide (a.toNat % 16 > 9))

/-- The accumulator DAA leaves, by the digits it corrects. -/
theorem daa8_result (m : AuxCarryMode) (a : Byte) (f : Flags) :
    (daa8 m a f).1 = BitVec.ofNat 8
      (a.toNat + ((if daaLow a f then 0x06 else 0) + (if daaHigh a f then 0x60 else 0))) := rfl

/-- The carry DAA leaves: CY is set exactly when the high digit is corrected. -/
theorem daa8_cy (m : AuxCarryMode) (a : Byte) (f : Flags) : (daa8 m a f).2.cy = daaHigh a f := by
  have h : (daa8 m a f).2.cy = (f.cy || daaHigh a f) := by cases m <;> rfl
  rw [h, daaHigh, ← Bool.or_assoc, ← Bool.or_assoc, Bool.or_self]

section
variable {a v : Byte} (ha : isBcd a) (hv : isBcd v) (cin : Bool) (f : Flags)
include ha hv

/-- After a sum of decimal bytes DAA corrects the low digit exactly when the low digits carry: their
sum is above 15, which AC says, or from 10 to 15, which the low digit itself shows. -/
theorem daaLow_add8 : daaLow (add8 .intel a v cin f).1 (add8 .intel a v cin f).2 =
    decide (a.toNat % 16 + v.toNat % 16 + cin.toNat > 9) := by
  obtain ⟨halo, hahi⟩ := ha
  obtain ⟨hvlo, hvhi⟩ := hv
  have hcin := cin.toNat_le
  rw [Bool.eq_iff_iff, decide_eq_true_iff]
  simp only [add8_eq, daaLow, BitVec.toNat_ofNat, Bool.or_eq_true, decide_eq_true_eq]
  omega

/-- After a sum of decimal bytes DAA corrects the high digit exactly when the decimal sum
carries. -/
theorem daaHigh_add8 : daaHigh (add8 .intel a v cin f).1 (add8 .intel a v cin f).2 =
    decide (bcdValue a + bcdValue v + cin.toNat > 99) := by
  obtain ⟨halo, hahi⟩ := ha
  obtain ⟨hvlo, hvhi⟩ := hv
  have hcin := cin.toNat_le
  rw [Bool.eq_iff_iff, decide_eq_true_iff]
  simp only [add8_eq, daaHigh, bcdValue, BitVec.toNat_ofNat, Bool.or_eq_true, Bool.and_eq_true,
    decide_eq_true_eq]
  omega

/-- The sum of two decimal bytes, adjusted: both digits are decimal, and with CY as the hundreds
they are the decimal sum. -/
theorem daa8_add8 :
    let r := add8 .intel a v cin f
    let d := daa8 .intel r.1 r.2
    isBcd d.1 ∧ 100 * d.2.cy.toNat + bcdValue d.1 = bcdValue a + bcdValue v + cin.toNat := by
  intro r d
  have hcy : d.2.cy = decide (bcdValue a + bcdValue v + cin.toNat > 99) :=
    (daa8_cy ..).trans (daaHigh_add8 ha hv cin f)
  have hd : d.1.toNat = ((a.toNat + v.toNat + cin.toNat) % 256 +
      ((if a.toNat % 16 + v.toNat % 16 + cin.toNat > 9 then 6 else 0) +
        (if bcdValue a + bcdValue v + cin.toNat > 99 then 96 else 0))) % 256 := by
    rw [daa8_result, daaLow_add8 ha hv, daaHigh_add8 ha hv]
    simp [r, add8_eq]
  obtain ⟨halo, hahi⟩ := ha
  obtain ⟨hvlo, hvhi⟩ := hv
  have hcin := cin.toNat_le
  rw [hcy]
  generalize htotal : bcdValue a + bcdValue v + cin.toNat = total at hd ⊢
  unfold bcdValue at htotal
  -- The correction carries out of the byte exactly when the high digit is corrected.
  by_cases hlow : a.toNat % 16 + v.toNat % 16 + cin.toNat > 9 <;> by_cases hhigh : total > 99 <;>
    simp only [hlow, hhigh, if_true, if_false, decide_true, decide_false, Bool.toNat_true,
      Bool.toNat_false, bcdValue, isBcd] at hd ⊢
  · have hsum : d.1.toNat + 256 = a.toNat + v.toNat + cin.toNat + 0x66 := by omega
    omega
  · have hsum : d.1.toNat = a.toNat + v.toNat + cin.toNat + 0x06 := by omega
    omega
  · have hsum : d.1.toNat + 256 = a.toNat + v.toNat + cin.toNat + 0x60 := by omega
    omega
  · have hsum : d.1.toNat = a.toNat + v.toNat + cin.toNat := by omega
    omega

end

/-- Settles O36: ACI is `add8` with the carry in, and DAA is `daa8` on what it leaves. -/
theorem aciThenDaaAddsDecimalInIntelMode : Obligations.AciThenDaaAddsDecimalInIntelMode := by
  unfold Obligations.AciThenDaaAddsDecimalInIntelMode
  intro s v hmode ha hv
  refine ⟨addToA v s.flags.cy s, decimalAdjustA (addToA v s.flags.cy s), rfl, rfl, ?_⟩
  have h := daa8_add8 ha hv s.flags.cy s.flags
  simpa only [decimalAdjustA, addToA, hmode] using h

/-! ## The stack -/

/-- RET after CALL: PC is the return address and SP is back (R133, R134). -/
theorem ret_call (s : State) (x : Word) : (s.call x).ret = { s with mem := (s.call x).mem } := by
  rw [State.ret, topOfStack_call]
  simp [State.dropTop, State.jump, State.call, State.push16]

/-- Settles O47: the return address is popped, and CALL stores its two bytes under SP. -/
theorem callThenRetReturns : Obligations.CallThenRetReturns := by
  unfold Obligations.CallThenRetReturns
  intro s x
  refine ⟨s.call x, (s.call x).ret, rfl, rfl, ret_call s x, fun y hy1 hy2 => ?_⟩
  have hread : (s.call x).ret.readByte y = (s.call x).readByte y := readByte_congr (ret_mem _) y
  rw [hread, readByte_call, if_neg hy2, if_neg hy1]

/-- PUSH in any form pushes the pair its field rr names. -/
theorem exec_of_fits_push {i : Instr} (h : fits i 0xCF 0xC5 = true) (s : State) :
    exec i s = .next (s.push16 (s.getRPpsw (stackPairOfField (field54 i)))) := by
  cases i
  case pushB | pushD | pushH | pushPSW => rfl
  all_goals simp [fits, Instr.opcode, encode] at h

/-- POP in any form pops into the pair its field rr names. -/
theorem exec_of_fits_pop {i : Instr} (h : fits i 0xCF 0xC1 = true) (s : State) :
    exec i s = .next (popInto (stackPairOfField (field54 i)) s) := by
  cases i
  case popB | popD | popH | popPSW => rfl
  all_goals simp [fits, Instr.opcode, encode] at h

/-- Writing to a pair its own value changes nothing: the flags byte unpacks to the flags (R35). -/
theorem setRPpsw_getRPpsw (s : State) (p : StackPair) : s.setRPpsw p (s.getRPpsw p) = s := by
  cases p with
  | bc => simp [State.setRPpsw, State.getRPpsw, State.setBC, State.bc]
  | de => simp [State.setRPpsw, State.getRPpsw, State.setDE, State.de]
  | hl => simp [State.setRPpsw, State.getRPpsw, State.setHL, State.hl]
  | psw => simp [State.setRPpsw, State.getRPpsw, State.psw]

/-- Popping a pair just pushed gives back everything but memory (R133, R134). -/
theorem popInto_push16 (s : State) (p : StackPair) :
    popInto p (s.push16 (s.getRPpsw p)) = { s with mem := (s.push16 (s.getRPpsw p)).mem } := by
  let u : State := { s with mem := (s.push16 (s.getRPpsw p)).mem }
  have hdrop : (s.push16 (s.getRPpsw p)).dropTop = u := by
    simp [u, State.dropTop, State.push16]
  have hpair : s.getRPpsw p = u.getRPpsw p := by cases p <;> rfl
  rw [popInto, topOfStack_push16, hdrop]
  exact hpair ▸ setRPpsw_getRPpsw u p

/-- Settles O50: both fields name one pair, and POP reads what PUSH stored. -/
theorem pushThenPopRestores : Obligations.PushThenPopRestores := by
  unfold Obligations.PushThenPopRestores
  intro push pop s hpush hpop hfield
  refine ⟨_, _, exec_of_fits_push hpush s, exec_of_fits_pop hpop _, ?_⟩
  rw [← hfield, popInto_push16]

end Sys2Proof.Machine.Proofs
end

section
/-! PROOFS of 41_data_transfer.md: MOV, MVI and LXI by their opcode fields, the loads and
stores of A and of HL, and XCHG. -/

namespace Sys2Proof.Machine.Proofs

open Sys2Proof.Laws Sys2Proof.Machine.Laws

/-! ## Moves and immediate loads -/

/-- MOV in any form moves the operand its field sss selects to the one its field ddd selects. -/
theorem exec_of_isMov {i : Instr} (h : isMov i = true) (s : State) :
    exec i s = .next (moveOp (selOfField (field53 i)) (selOfField (field20 i)) s) := by
  cases i
  case movBB | movBC | movBD | movBE | movBH | movBL | movBM | movBA | movCB | movCC | movCD |
      movCE | movCH | movCL | movCM | movCA | movDB | movDC | movDD | movDE | movDH | movDL |
      movDM | movDA | movEB | movEC | movED | movEE | movEH | movEL | movEM | movEA | movHB |
      movHC | movHD | movHE | movHH | movHL | movHM | movHA | movLB | movLC | movLD | movLE |
      movLH | movLL | movLM | movLA | movMB | movMC | movMD | movME | movMH | movML | movMA |
      movAB | movAC | movAD | movAE | movAH | movAL | movAM | movAA =>
    rfl
  all_goals simp [isMov, fits, Instr.opcode, encode] at h

/-- Settles O23: every form of MOV is `moveOp` on the two selectors of its opcode byte. -/
theorem movCopiesSourceToDestination : Obligations.MovCopiesSourceToDestination := by
  unfold Obligations.MovCopiesSourceToDestination
  intro i s h
  rw [exec_of_isMov h, moveOp]

/-- Settles O24: each form sets the operand its field ddd selects. -/
theorem mviLoadsItsImmediate : Obligations.MviLoadsItsImmediate := by
  unfold Obligations.MviLoadsItsImmediate
  intro i s h
  cases i
  case mviB | mviC | mviD | mviE | mviH | mviL | mviM | mviA =>
    -- The field evaluates on the closed opcode byte, and the immediate is the operand.
    simp [field53]
    rfl
  all_goals simp [fits, Instr.opcode, encode] at h

/-- Settles O25: each form sets the pair its field rr selects. -/
theorem lxiLoadsItsPair : Obligations.LxiLoadsItsPair := by
  unfold Obligations.LxiLoadsItsPair
  intro i s h
  cases i
  case lxiB | lxiD | lxiH | lxiSP =>
    -- The field evaluates on the closed opcode byte, and the two immediate bytes are the operand.
    simp [field54]
    rfl
  all_goals simp [fits, Instr.opcode, encode] at h

/-! ## Loads and stores of A -/

/-- An instruction is the one its opcode's row gives for some operand: decoding its own encoding
applies that row (R91, R92). -/
theorem exists_eq_rowInstr_of_opcode {i : Instr} {op : Byte} {row : OpcodeRow} (hop : i.opcode = op)
    (hrow : opcodeTable[op.toNat]? = some row) : ∃ w, i = rowInstr row w := by
  have hdecode := decode_encode i []
  obtain ⟨op', tail, row', hbytes, hrow', happly⟩ := decode_eq_ok hdecode
  rw [hbytes] at hdecode
  obtain rfl : op' = op := (opcode_of_decode hdecode).symm.trans hop
  obtain rfl : row' = row := Option.some.inj (hrow'.symm.trans hrow)
  obtain ⟨w, hi, -⟩ := applyRow_eq_some happly
  exact ⟨w, hi⟩

/-- LDAX in either form loads A from the pair that bit 4 of its opcode byte selects. -/
theorem exec_of_fits_ldax {i : Instr} (h : fits i 0xEF 0x0A = true) (s : State) :
    exec i s = .next (loadA (if i.opcode[4] then s.de else s.bc) s) := by
  cases i
  case ldaxB | ldaxD => rfl
  all_goals simp [fits, Instr.opcode, encode] at h

/-- STAX in either form stores A at the pair that bit 4 of its opcode byte selects. -/
theorem exec_of_fits_stax {i : Instr} (h : fits i 0xEF 0x02 = true) (s : State) :
    exec i s = .next (storeA (if i.opcode[4] then s.de else s.bc) s) := by
  cases i
  case staxB | staxD => rfl
  all_goals simp [fits, Instr.opcode, encode] at h

/-- Settles O26: LDA and LDAX are `loadA`, STA and STAX `storeA`, each at its own address. -/
theorem accumulatorLoadsAndStores : Obligations.AccumulatorLoadsAndStores := by
  unfold Obligations.AccumulatorLoadsAndStores
  intro i s
  refine ⟨fun hlda => ?_, fun hsta => ?_, fun hldax => exec_of_fits_ldax hldax s,
    fun hstax => exec_of_fits_stax hstax s⟩
  · obtain ⟨x, rfl⟩ := exists_eq_rowInstr_of_opcode (row := .f3 .lda) hlda rfl
    rw [rowInstr, imm16_lda]
    rfl
  · obtain ⟨x, rfl⟩ := exists_eq_rowInstr_of_opcode (row := .f3 .sta) hsta rfl
    rw [rowInstr, imm16_sta]
    rfl

/-! ## Loads, stores and the exchange of HL -/

/-- The word at an address, loaded into HL: L takes the byte there, H the byte after it (R159). -/
theorem setHL_readWord (s : State) (x : Word) :
    s.setHL (s.readWord x) = { s with l := s.readByte x, h := s.readByte (x + 1) } := by
  rw [State.setHL, State.readWord, hiByte_joinBytes, loByte_joinBytes]

/-- Settles O27: LHLD and SHLD move HL as one word, and a word's low byte is at its address
(R53). -/
theorem lhldAndShldMoveHl : Obligations.LhldAndShldMoveHl := by
  unfold Obligations.LhldAndShldMoveHl
  intro s x
  obtain ⟨hlow, hhigh, hother, -⟩ := wordsAreLittleEndian s x s.hl
  refine ⟨congrArg Host.Outcome.next (setHL_readWord s x), s.writeWord x s.hl, rfl, rfl, ?_, ?_,
    hother⟩
  · exact hlow.trans (loByte_joinBytes s.h s.l)
  · exact hhigh.trans (hiByte_joinBytes s.h s.l)

/-- XCHG's two pair writes, register by register (R163). -/
theorem exchangeHLDE_eq (s : State) :
    exchangeHLDE s = { s with h := s.d, l := s.e, d := s.h, e := s.l } := by
  simp [exchangeHLDE, State.setHL, State.setDE, State.hl, State.de]

/-- Settles O28: the exchange names four registers, and made twice it names each its own value. -/
theorem xchgExchangesAndRestores : Obligations.XchgExchangesAndRestores := by
  unfold Obligations.XchgExchangesAndRestores
  intro s
  have htwice : exchangeHLDE (exchangeHLDE s) = s := by
    rw [exchangeHLDE_eq (exchangeHLDE s), exchangeHLDE_eq s]
  exact ⟨exchangeHLDE s, rfl, exchangeHLDE_eq s, congrArg Host.Outcome.next htwice⟩

end Sys2Proof.Machine.Proofs
end

section
/-! PROOFS of 42_arithmetic.md: subtraction, the arithmetic on pairs, and DAA. -/

namespace Sys2Proof.Machine.Proofs

open Sys2Proof.Laws Sys2Proof.Machine.Laws

/-! ## Subtraction -/

/-- The difference of R123 modulo 256, over the naturals: 512 is a multiple of 256 that no borrow
exceeds. -/
theorem ofInt_sub_sub_eq_ofNat (a b : Byte) (bin : Bool) :
    BitVec.ofInt 8 ((a.toNat : Int) - b.toNat - bin.toNat) =
      BitVec.ofNat 8 (a.toNat + 512 - b.toNat - bin.toNat) := by
  have hb := b.isLt
  have hbin := bin.toNat_le
  apply BitVec.eq_of_toNat_eq
  rw [BitVec.toNat_ofInt, BitVec.toNat_ofNat]
  omega

/-- A difference of naturals is negative exactly when there is a borrow (R123). -/
theorem decide_sub_sub_neg (x y c : Nat) :
    decide ((x : Int) - y - c < 0) = decide (x < y + c) :=
  decide_eq_decide.mpr (by omega)

/-- A difference of naturals is not negative exactly when there is no borrow (R123). -/
theorem decide_sub_sub_nonneg (x y c : Nat) :
    decide ((x : Int) - y - c ≥ 0) = decide (y + c ≤ x) :=
  decide_eq_decide.mpr (by omega)

/-- Settles O30: SUB and SBB run `subFromA`, whose difference and borrows are those of `sub8` read
over the naturals. -/
theorem subtractionWritesAccumulatorAndFlags :
    Obligations.SubtractionWritesAccumulatorAndFlags := by
  unfold Obligations.SubtractionWritesAccumulatorAndFlags
  intro i s bin hbin
  have hexec : exec i s = .next (subFromA (aluOperand i s) bin s) := by
    rcases hbin with ⟨hsub, rfl⟩ | ⟨hsbb, rfl⟩
    · exact exec_of_isAlu (by decide) hsub s
    · exact exec_of_isAlu (by decide) hsbb s
  rw [hexec, subFromA, sub8_eq, ofInt_sub_sub_eq_ofNat, decide_sub_sub_neg, decide_sub_sub_nonneg]
  rfl

/-! ## Arithmetic on pairs -/

/-- INX in any form adds 1 to the pair its field rr names. -/
theorem exec_of_fits_inx {i : Instr} (h : fits i 0xCF 0x03 = true) (s : State) :
    let p := pairOfField (field54 i)
    exec i s = .next (s.setRP p (s.getRP p + 1)) := by
  cases i
  case inxB | inxD | inxH | inxSP => rfl
  all_goals simp [fits, Instr.opcode, encode] at h

/-- DCX in any form takes 1 from the pair its field rr names. -/
theorem exec_of_fits_dcx {i : Instr} (h : fits i 0xCF 0x0B = true) (s : State) :
    let p := pairOfField (field54 i)
    exec i s = .next (s.setRP p (s.getRP p - 1)) := by
  cases i
  case dcxB | dcxD | dcxH | dcxSP => rfl
  all_goals simp [fits, Instr.opcode, encode] at h

/-- DAD in any form adds the pair its field rr names to HL. -/
theorem exec_of_fits_dad {i : Instr} (h : fits i 0xCF 0x09 = true) (s : State) :
    exec i s = .next (addToHL (s.getRP (pairOfField (field54 i))) s) := by
  cases i
  case dadB | dadD | dadH | dadSP => rfl
  all_goals simp [fits, Instr.opcode, encode] at h

/-- Settles O33: modulo 65,536, adding 65,535 takes 1. -/
theorem pairIncrementAndDecrement : Obligations.PairIncrementAndDecrement := by
  unfold Obligations.PairIncrementAndDecrement
  intro i s p
  have hinc : BitVec.ofNat 16 ((s.getRP p).toNat + 1) = s.getRP p + 1 := by bv_omega
  have hdec : BitVec.ofNat 16 ((s.getRP p).toNat + 65535) = s.getRP p - 1 := by bv_omega
  rw [hinc, hdec]
  exact ⟨fun hinx => exec_of_fits_inx hinx s, fun hdcx => exec_of_fits_dcx hdcx s⟩

/-- Settles O34: each form is `addToHL` on its pair, which names H, L and CY alone. -/
theorem dadAddsPairToHl : Obligations.DadAddsPairToHl := by
  unfold Obligations.DadAddsPairToHl
  intro i s h
  rw [exec_of_fits_dad h, addToHL]
  rfl

/-! ## Decimal adjustment -/

/-- What DAA adds to A: 0x06 for the low digit and 0x60 for the high digit (R200). -/
def daaCorrection (a : Byte) (f : Flags) : Nat :=
  (if daaLow a f then 0x06 else 0) + (if daaHigh a f then 0x60 else 0)

/-- The result and the flags of `daa8`, by its correction (R200). -/
theorem daa8_eq (m : AuxCarryMode) (a : Byte) (f : Flags) :
    daa8 m a f =
      let r : Byte := BitVec.ofNat 8 (a.toNat + daaCorrection a f)
      (r, setArithmeticAC m (decide (a.toNat % 16 + daaCorrection a f % 16 > 15))
        (setZSP r { f with cy := f.cy || daaHigh a f })) := rfl

/-- The low digit is corrected when AC is set or the digit is not decimal (R200). -/
theorem daaLow_iff {a : Byte} {f : Flags} :
    daaLow a f = true ↔ f.ac = true ∨ a.toNat % 16 > 9 := by
  simp [daaLow]

/-- The high digit is corrected when CY is set, the digit is not decimal, or it will not be after
the low digit's carry (R200). -/
theorem daaHigh_iff {a : Byte} {f : Flags} :
    daaHigh a f = true ↔
      f.cy = true ∨ a.toNat / 16 > 9 ∨ (a.toNat / 16 ≥ 9 ∧ a.toNat % 16 > 9) := by
  simp [daaHigh, or_assoc]

/-- The high digit is corrected exactly when the correction is 0x60 or 0x66. -/
theorem daaHigh_eq_decide_correction (a : Byte) (f : Flags) :
    daaHigh a f = decide (daaCorrection a f ≥ 0x60) := by
  unfold daaCorrection
  cases daaLow a f <;> cases daaHigh a f <;> rfl

/-- Settles O35: the two conditions give `daaCorrection`, and CY is set exactly when the correction
reaches the high digit. -/
theorem daaCorrectsTheAccumulator : Obligations.DaaCorrectsTheAccumulator := by
  unfold Obligations.DaaCorrectsTheAccumulator
  intro s corr lsb msb low high hcorr r
  have hlow : daaLow s.a s.flags = true ↔ low := daaLow_iff
  have hhigh : daaHigh s.a s.flags = true ↔ high := daaHigh_iff
  obtain rfl : corr = daaCorrection s.a s.flags := by
    rw [← hlow, ← hhigh] at hcorr
    rcases hcorr with ⟨hl, hh, rfl⟩ | ⟨hl, hh, rfl⟩ | ⟨hl, hh, rfl⟩ | ⟨hl, hh, rfl⟩ <;>
      simp [daaCorrection, hl, hh]
  have hexec : exec .daa s = .next (decimalAdjustA s) := rfl
  rw [hexec, decimalAdjustA, daa8_eq, daaHigh_eq_decide_correction]
  cases s.auxCarryMode <;> rfl

end Sys2Proof.Machine.Proofs
end

section
/-! PROOFS of 43_logical.md: comparison, the rotates, and the complement and carry instructions. -/

namespace Sys2Proof.Machine.Proofs

open Sys2Proof.Laws Sys2Proof.Machine.Laws

/-! ## Comparison -/

/-- A difference of bytes is zero exactly when they are equal. -/
theorem sub_beq_zero (a b : Byte) : (a - b == 0) = decide (a = b) :=
  decide_eq_decide.mpr sub_eq_zero

/-- Settles O38: CMP and CPI run `compareA`, whose flags are those of `sub8` with no borrow in. -/
theorem compareSetsFlagsAndKeepsAccumulator :
    Obligations.CompareSetsFlagsAndKeepsAccumulator := by
  unfold Obligations.CompareSetsFlagsAndKeepsAccumulator
  intro i s hcmp v r
  have hexec : exec i s = .next (compareA v s) := exec_of_isAlu (by decide) hcmp s
  have hdiff : BitVec.ofInt 8 ((s.a.toNat : Int) - v.toNat - false.toNat) = r :=
    (sub8_result s.auxCarryMode s.a v false s.flags).trans (BitVec.sub_zero _)
  rw [hexec, compareA, sub8_eq, hdiff, decide_sub_sub_neg, decide_sub_sub_nonneg,
    ← sub_beq_zero s.a v]
  rfl

/-! ## Rotates -/

/-- A value is its top bit put above the others. -/
theorem cons_getLsbD_extractLsb' {w : Nat} (x : BitVec (w + 1)) :
    (x.extractLsb' 0 w).cons (x.getLsbD w) = x := by
  apply BitVec.eq_of_getElem_eq
  intro n hn
  by_cases htop : n = w
  · subst htop
    simp [BitVec.getElem_cons]
  · rw [BitVec.getElem_cons, dif_neg htop, BitVec.getElem_extractLsb', Nat.zero_add,
      BitVec.getLsbD_eq_getElem hn]

/-- A value is its low bit put below the others. -/
theorem concat_extractLsb'_getLsbD {w : Nat} (x : BitVec (w + 1)) :
    (x.extractLsb' 1 w).concat (x.getLsbD 0) = x := by
  apply BitVec.eq_of_getElem_eq
  intro n hn
  cases n with
  | zero => simp
  | succ n =>
    rw [BitVec.getElem_concat_succ, BitVec.getElem_extractLsb', Nat.add_comm 1 n,
      BitVec.getLsbD_eq_getElem hn]

/-- Rotated left by one, the top bit goes round to the low end. -/
theorem rotateLeft_cons {w : Nat} (c : Bool) (x : BitVec (w + 1)) :
    (x.cons c).rotateLeft 1 = x.concat c := by
  apply BitVec.eq_of_getElem_eq
  intro n hn
  cases n with
  | zero => simp [BitVec.getElem_rotateLeft, BitVec.getElem_cons]
  | succ n =>
    have hlow : n ≠ w + 1 := by omega
    simp [BitVec.getElem_rotateLeft, BitVec.getElem_cons, hlow]

/-- Rotated right by one, the low bit goes round to the top. -/
theorem rotateRight_concat {w : Nat} (x : BitVec (w + 1)) (c : Bool) :
    (x.concat c).rotateRight 1 = x.cons c := by
  apply BitVec.eq_of_getElem_eq
  intro n hn
  by_cases htop : n = w + 1
  · subst htop
    simp [BitVec.getElem_rotateRight, BitVec.getElem_cons]
  · have hlow : n < w + 1 := by omega
    simp [BitVec.getElem_rotateRight, BitVec.getElem_cons, htop, hlow, Nat.add_comm 1]

/-- One bit put above a value and one put below it, in either order. -/
theorem concat_cons {w : Nat} (x : BitVec w) (b c : Bool) :
    (x.cons b).concat c = (x.concat c).cons b :=
  BitVec.cons_append x (BitVec.ofBool c) b

/-- RLC's result: bits 6 to 0 above bit 7 (R233). -/
theorem rotateLeft_one (a : Byte) :
    a.rotateLeft 1 = (a.extractLsb' 0 7).concat (a.getLsbD 7) := by
  have h := rotateLeft_cons (a.getLsbD 7) (a.extractLsb' 0 7)
  rwa [cons_getLsbD_extractLsb'] at h

/-- RRC's result: bit 0 above bits 7 to 1 (R234). -/
theorem rotateRight_one (a : Byte) :
    a.rotateRight 1 = (a.extractLsb' 1 7).cons (a.getLsbD 0) := by
  have h := rotateRight_concat (a.extractLsb' 1 7) (a.getLsbD 0)
  rwa [concat_extractLsb'_getLsbD] at h

/-- RAL on CY:A: bit 7 above bits 6 to 0, and CY below them (R235). -/
theorem rotateLeft_one_cons (a : Byte) (c : Bool) :
    (a.cons c).rotateLeft 1 = ((a.extractLsb' 0 7).concat c).cons (a.getLsbD 7) := by
  rw [rotateLeft_cons, ← concat_cons, cons_getLsbD_extractLsb']

/-- RAR on A:CY: CY above bits 7 to 1, and bit 0 below them (R236). -/
theorem rotateRight_one_concat (a : Byte) (c : Bool) :
    (a.concat c).rotateRight 1 = ((a.extractLsb' 1 7).cons c).concat (a.getLsbD 0) := by
  rw [rotateRight_concat, concat_cons, concat_extractLsb'_getLsbD]

/-- Settles O39: each rotate's A and CY are the bits that the rotated 8-bit or 9-bit value is put
together from. -/
theorem rotatesMoveAccumulatorAndCarry : Obligations.RotatesMoveAccumulatorAndCarry := by
  unfold Obligations.RotatesMoveAccumulatorAndCarry
  intro s
  rw [rotateLeft_one, rotateRight_one]
  exact ⟨rfl, rfl, ⟨_, _, rfl, (rotateLeft_one_cons s.a s.flags.cy).symm⟩,
    ⟨_, _, rfl, (rotateRight_one_concat s.a s.flags.cy).symm⟩⟩

/-! ## Complement and carry -/

/-- Settles O40: complementing is the exclusive or with eight 1 bits, and CMC and STC set CY. -/
theorem complementAndCarryInstructions : Obligations.ComplementAndCarryInstructions := by
  unfold Obligations.ComplementAndCarryInstructions
  intro s
  have hcma : exec .cma s = .next { s with a := s.a ^^^ 0xFF#8 } := rfl
  have hnot : s.a ^^^ 0xFF#8 = ~~~ s.a := BitVec.xor_allOnes
  rw [hcma, hnot]
  exact ⟨rfl, rfl, rfl⟩

end Sys2Proof.Machine.Proofs
end

section
/-! PROOFS of 44_branch.md: jumps, calls, returns and their conditional forms. -/

namespace Sys2Proof.Machine.Proofs

open Sys2Proof.Laws Sys2Proof.Machine.Laws

/-! ## Jumps -/

/-- JMP in either encoding jumps to its immediate. -/
theorem exec_of_fits_jmp {i : Instr} (h : fits i 0xF7 0xC3 = true) (s : State) :
    exec i s = .next (s.jump i.imm16) := by
  cases i
  case jmp | jmpCB =>
    simp only [imm16_jmp, imm16_jmpCB]
    rfl
  all_goals simp [fits, Instr.opcode, encode] at h

/-- Jccc in any form jumps to its immediate under the condition its field ccc names. -/
theorem exec_of_fits_jccc {i : Instr} (h : fits i 0xC7 0xC2 = true) (s : State) :
    exec i s = .next (jumpIf (condOfField (field53 i)) i.imm16 s) := by
  cases i
  case jnz | jz | jnc | jc | jpo | jpe | jp | jm =>
    -- The condition evaluates on the closed opcode byte, and the target is the operand.
    simp [field53]
    rfl
  all_goals simp [fits, Instr.opcode, encode] at h

/-- Settles O41: both encodings of JMP jump to the immediate, and PCHL jumps to HL. -/
theorem jumpsLoadPc : Obligations.JumpsLoadPc := by
  unfold Obligations.JumpsLoadPc
  intro i s
  refine ⟨fun hjmp => exec_of_fits_jmp hjmp s, fun hpchl => ?_⟩
  obtain ⟨-, rfl⟩ := exists_eq_rowInstr_of_opcode (row := .f1 .pchl) hpchl rfl
  rfl

/-- Settles O42: `jumpIf` writes PC alone, and the table's condition is the branch unit's. -/
theorem conditionalJumpFollowsItsCondition : Obligations.ConditionalJumpFollowsItsCondition := by
  unfold Obligations.ConditionalJumpFollowsItsCondition
  intro i s h
  rw [exec_of_fits_jccc h, jumpIf_eq, conditionOfField_eq]

/-! ## Calls -/

/-- CALL in any encoding calls its immediate. -/
theorem exec_of_isCall {i : Instr} (h : isCall i = true) (s : State) :
    exec i s = .next (s.call i.imm16) := by
  cases i
  case call | callDD | callED | callFD =>
    simp only [imm16_call, imm16_callDD, imm16_callED, imm16_callFD]
    rfl
  all_goals simp [isCall, fits, Instr.opcode, encode] at h

/-- RST in any form calls eight times its field nnn (R257). -/
theorem exec_of_fits_rst {i : Instr} (h : fits i 0xC7 0xC7 = true) (s : State) :
    exec i s = .next (s.call (BitVec.ofNat 16 (8 * (field53 i).toNat))) := by
  cases i
  case rst0 | rst1 | rst2 | rst3 | rst4 | rst5 | rst6 | rst7 => rfl
  all_goals simp [fits, Instr.opcode, encode] at h

/-- Cccc in any form calls its immediate under the condition its field ccc names. -/
theorem exec_of_fits_cccc {i : Instr} (h : fits i 0xC7 0xC4 = true) (s : State) :
    exec i s = .next (callIf (condOfField (field53 i)) i.imm16 s) := by
  cases i
  case cnz | cz | cnc | cc | cpo | cpe | cp | cm =>
    -- The condition evaluates on the closed opcode byte, and the target is the operand.
    simp [field53]
    rfl
  all_goals simp [fits, Instr.opcode, encode] at h

/-- A call in full: SP, PC, the two bytes of the return address, and the bytes it keeps
(R133, R253). -/
theorem call_pushes_pc (s : State) (x : Word) :
    s.call x = { s with sp := s.sp - 2, pc := x, mem := (s.call x).mem } ∧
    (s.call x).readByte (s.sp - 1) = s.pc.extractLsb' 8 8 ∧
    (s.call x).readByte (s.sp - 2) = s.pc.extractLsb' 0 8 ∧
    ∀ y : Word, y ≠ s.sp - 1 → y ≠ s.sp - 2 → (s.call x).readByte y = s.readByte y := by
  refine ⟨rfl, ?_, ?_, fun y hhigh hlow => ?_⟩
  · rw [readByte_call, if_neg (word_sub_two_ne_sub_one s.sp).symm, if_pos rfl, hiByte]
  · rw [readByte_call, if_pos rfl, loByte]
  · rw [readByte_call, if_neg hlow, if_neg hhigh]

/-- Settles O43: CALL and RST run one operation, each on its own target. -/
theorem callsPushTheReturnAddress : Obligations.CallsPushTheReturnAddress := by
  unfold Obligations.CallsPushTheReturnAddress
  intro i s target htarget
  have hexec : exec i s = .next (s.call target) := by
    rcases htarget with ⟨hcall, rfl⟩ | ⟨hrst, rfl⟩
    · exact exec_of_isCall hcall s
    · exact exec_of_fits_rst hrst s
  exact ⟨s.call target, hexec, call_pushes_pc s target⟩

/-- Settles O44: `callIf` is a call when the condition holds, and the state as it was otherwise. -/
theorem conditionalCallFollowsItsCondition : Obligations.ConditionalCallFollowsItsCondition := by
  unfold Obligations.ConditionalCallFollowsItsCondition
  intro i s h
  rw [conditionOfField_eq]
  refine ⟨_, exec_of_fits_cccc h s, fun hnot => callIf_of_not _ hnot, fun hholds => ?_⟩
  rw [callIf_of_holds _ hholds]
  exact call_pushes_pc s i.imm16

/-! ## Returns -/

/-- A return in full: PC is the word at SP, its low byte first, and SP is past it (R134, R255). -/
theorem ret_eq (s : State) :
    s.ret = { s with pc := s.readByte (s.sp + 1) ++ s.readByte s.sp, sp := s.sp + 2 } := rfl

/-- RET in either encoding returns. -/
theorem exec_of_fits_ret {i : Instr} (h : fits i 0xEF 0xC9 = true) (s : State) :
    exec i s = .next s.ret := by
  cases i
  case ret | retD9 => rfl
  all_goals simp [fits, Instr.opcode, encode] at h

/-- Rccc in any form returns under the condition its field ccc names. -/
theorem exec_of_fits_rccc {i : Instr} (h : fits i 0xC7 0xC0 = true) (s : State) :
    exec i s = .next (retIf (condOfField (field53 i)) s) := by
  cases i
  case rnz | rz | rnc | rc | rpo | rpe | rp | rm => rfl
  all_goals simp [fits, Instr.opcode, encode] at h

/-- Settles O45: both encodings of RET run `State.ret`. -/
theorem returnPopsPc : Obligations.ReturnPopsPc := by
  unfold Obligations.ReturnPopsPc
  intro i s h
  rw [exec_of_fits_ret h, ret_eq]

/-- Settles O46: `retIf` is a return when the condition holds, and the state as it was otherwise. -/
theorem conditionalReturnFollowsItsCondition :
    Obligations.ConditionalReturnFollowsItsCondition := by
  unfold Obligations.ConditionalReturnFollowsItsCondition
  intro i s h
  rw [exec_of_fits_rccc h, retIf, ret_eq, conditionOfField_eq]

end Sys2Proof.Machine.Proofs
end

section
/-! PROOFS of 45_stack_io_control.md: PUSH, POP and XTHL by the bytes they move, the writes of SP and
INTE, and the instructions that do nothing. -/

namespace Sys2Proof.Machine.Proofs

open Sys2Proof.Laws Sys2Proof.Machine.Laws

/-! ## The stack -/

/-- A push in full: SP, the two bytes of the value, and the bytes it keeps (R133). -/
theorem push16_stores_word (s : State) (v : Word) :
    s.push16 v = { s with sp := s.sp - 2, mem := (s.push16 v).mem } ∧
    (s.push16 v).readByte (s.sp - 1) = hiByte v ∧ (s.push16 v).readByte (s.sp - 2) = loByte v ∧
    ∀ x : Word, x ≠ s.sp - 1 → x ≠ s.sp - 2 → (s.push16 v).readByte x = s.readByte x := by
  refine ⟨rfl, ?_, ?_, fun x hhigh hlow => ?_⟩
  · rw [readByte_push16, if_neg (word_sub_two_ne_sub_one s.sp).symm, if_pos rfl]
  · rw [readByte_push16, if_pos rfl]
  · rw [readByte_push16, if_neg hlow, if_neg hhigh]

/-- Settles O48: the pair pushed is its high byte joined to its low byte. -/
theorem pushStoresItsPair : Obligations.PushStoresItsPair := by
  unfold Obligations.PushStoresItsPair
  intro i s hi lo h hbytes
  have hpair : s.getRPpsw (stackPairOfField (field54 i)) = joinBytes hi lo := by
    cases hp : stackPairOfField (field54 i) with
    | bc | de | hl | psw =>
      rw [hp] at hbytes
      obtain ⟨rfl, rfl⟩ := hbytes
      rfl
  have hstores := push16_stores_word s (joinBytes hi lo)
  rw [hiByte_joinBytes, loByte_joinBytes] at hstores
  exact ⟨s.push16 (joinBytes hi lo), hpair ▸ exec_of_fits_push h s, hstores⟩

/-- The high byte of the word at SP is the byte at SP + 1 (R134). -/
@[simp] theorem hiByte_topOfStack (s : State) : hiByte s.topOfStack = s.readByte (s.sp + 1) :=
  hiByte_joinBytes _ _

/-- The low byte of the word at SP is the byte at SP (R134). -/
@[simp] theorem loByte_topOfStack (s : State) : loByte s.topOfStack = s.readByte s.sp :=
  loByte_joinBytes _ _

/-- Settles O49: the two bytes of the word at SP go to the two halves of the pair, and a popped
flags byte is unpacked. -/
theorem popLoadsItsPair : Obligations.PopLoadsItsPair := by
  unfold Obligations.PopLoadsItsPair
  intro i s h lo hi
  rw [exec_of_fits_pop h, popInto]
  cases stackPairOfField (field54 i) with
  | bc => simp [State.setRPpsw, State.setBC, State.dropTop, hi, lo]
  | de => simp [State.setRPpsw, State.setDE, State.dropTop, hi, lo]
  | hl => simp [State.setRPpsw, State.setHL, State.dropTop, hi, lo]
  | psw => simp [State.setRPpsw, unpackF_eq, State.dropTop, hi, lo]

/-- XTHL loads HL with the word at SP and otherwise writes memory alone (R285). -/
theorem exchangeTopHL_eq (s : State) :
    exchangeTopHL s =
      { s with l := s.readByte s.sp, h := s.readByte (s.sp + 1), mem := (exchangeTopHL s).mem } := by
  simp [exchangeTopHL, State.setHL, State.writeWord, State.writeByte]

/-- Settles O51: HL is loaded with the word at SP, and the word HL held is stored there. -/
theorem xthlExchangesHlWithTheTopOfStack : Obligations.XthlExchangesHlWithTheTopOfStack := by
  unfold Obligations.XthlExchangesHlWithTheTopOfStack
  intro s
  refine ⟨exchangeTopHL s, rfl, exchangeTopHL_eq s, ?_, ?_, fun x hlow hhigh => ?_⟩
  · rw [readByte_exchangeTopHL, if_neg (word_ne_add_one s.sp).symm, if_pos rfl]
  · rw [readByte_exchangeTopHL, if_pos rfl]
  · rw [readByte_exchangeTopHL, if_neg hhigh, if_neg hlow]

/-! ## Control -/

/-- Settles O52: each is one write, and HL is H above L. -/
theorem sphlEiAndDi : Obligations.SphlEiAndDi := by
  unfold Obligations.SphlEiAndDi
  intro s
  have hhl : s.hl = s.h ++ s.l := rfl
  rw [← hhl]
  exact ⟨rfl, rfl, rfl⟩

/-- Settles O54: the opcode bytes `00xxx000` are NOP and its seven aliases, whose meaning is the
state itself. -/
theorem nopsChangeNothing : Obligations.NopsChangeNothing := by
  unfold Obligations.NopsChangeNothing
  intro i s h
  cases i
  case nop | nop08 | nop10 | nop18 | nop20 | nop28 | nop30 | nop38 => rfl
  all_goals simp [fits, Instr.opcode, encode] at h

end Sys2Proof.Machine.Proofs
end

section
/-! PROOFS of 60_exceptions.md: the event of a step, what the host's edits reach, and when they take
effect. -/

namespace Sys2Proof.Machine.Proofs

open Sys2Proof.Laws Sys2Proof.Machine.Laws

/-! ## The event of a step -/

/-- OUT, IN and HLT emit one event each, and no other instruction emits any (R317). -/
theorem length_emittedEvents_le_one (i : Instr) (s : State) : (emittedEvents i s).length ≤ 1 := by
  unfold emittedEvents
  split_ifs
  · exact Nat.le_refl 1
  · exact Nat.le_refl 1
  · exact Nat.le_refl 1
  · exact Nat.zero_le 1

/-- Settles O11: the step runs `i` past its bytes, where A is as before, and the footprint of `i`
names its events. -/
theorem stepEmitsOnlyItsInstructionsEvent : Obligations.StepEmitsOnlyItsInstructionsEvent := by
  unfold Obligations.StepEmitsOnlyItsInstructionsEvent
  intro s t i rest hdecode hstep
  rw [step_of_decode hdecode] at hstep
  exact ⟨(exec_within hstep).events, length_emittedEvents_le_one i s⟩

/-! ## One edit -/

/-- Settles O57: an edit is the update of its field, and one of memory is a store of its byte. -/
theorem hostEditWritesOneElement : Obligations.HostEditWritesOneElement := by
  unfold Obligations.HostEditWritesOneElement
  intro s
  refine ⟨fun v => ⟨rfl, rfl, rfl, rfl, rfl, rfl, rfl⟩, fun v => ⟨rfl, rfl⟩, fun f => rfl,
    fun v => rfl, fun x y v => ⟨rfl, readByte_hostEdit s (.memory x v) y⟩⟩

/-! ## What a list of edits reaches -/

/-- A list of edits keeps the canonical form, since each edit does. -/
theorem hostEdits_inv {s : State} (edits : List HostEdit) (hs : Inv s) :
    Inv (s.hostEdits edits) := by
  induction edits generalizing s with
  | nil => exact hs
  | cons edit edits ih => exact ih (hostEdit_wf edit hs)

/-- What no edit changes, no list of edits changes. -/
theorem hostEdits_keeps {α : Type} (f : State → α)
    (hf : ∀ (s : State) (edit : HostEdit), f (s.hostEdit edit) = f s)
    (s : State) (edits : List HostEdit) : f (s.hostEdits edits) = f s := by
  induction edits generalizing s with
  | nil => rfl
  | cons edit edits ih => rw [hostEdits_cons, ih, hf]

theorem hostEdits_auxCarryMode (s : State) (edits : List HostEdit) :
    (s.hostEdits edits).auxCarryMode = s.auxCarryMode :=
  hostEdits_keeps State.auxCarryMode hostEdit_auxCarryMode s edits

theorem hostEdits_events (s : State) (edits : List HostEdit) :
    (s.hostEdits edits).events = s.events :=
  hostEdits_keeps State.events hostEdit_events s edits

theorem hostEdits_draws (s : State) (edits : List HostEdit) :
    (s.hostEdits edits).draws = s.draws :=
  hostEdits_keeps State.draws hostEdit_draws s edits

/-- The edits that give memory, at each of the addresses, the byte `t` has there. -/
def memoryEdits (t : State) (addrs : List Word) : List HostEdit :=
  addrs.map fun x => .memory x (t.readByte x)

/-- The edits that give every element but memory the value it has in `t`. -/
def fieldEdits (t : State) : List HostEdit :=
  [.reg .a t.a, .reg .b t.b, .reg .c t.c, .reg .d t.d, .reg .e t.e, .reg .h t.h, .reg .l t.l,
    .sp t.sp, .pc t.pc, .flags t.flags, .inte t.inte]

/-- The 65,536 addresses. -/
def allAddresses : List Word := (List.finRange (2 ^ 16)).map BitVec.ofFin

theorem mem_allAddresses (x : Word) : x ∈ allAddresses :=
  List.mem_map.mpr ⟨x.toFin, List.mem_finRange _, rfl⟩

/-- Memory after those edits reads as in `t` at the addresses, and as before elsewhere. -/
theorem readByte_memoryEdits (s t : State) (addrs : List Word) (y : Word) :
    (s.hostEdits (memoryEdits t addrs)).readByte y =
      if y ∈ addrs then t.readByte y else s.readByte y := by
  induction addrs generalizing s with
  | nil => simp [memoryEdits]
  | cons x addrs ih =>
    have hcons : s.hostEdits (memoryEdits t (x :: addrs)) =
        (s.hostEdit (.memory x (t.readByte x))).hostEdits (memoryEdits t addrs) := rfl
    rw [hcons, ih, readByte_hostEdit]
    by_cases hyx : y = x <;> simp [hyx]

/-- Memory after the edits of all addresses is the memory copied: both are in canonical form. -/
theorem mem_memoryEdits_allAddresses {s t : State} (hs : Inv s) (ht : Inv t) :
    (s.hostEdits (memoryEdits t allAddresses)).mem = t.mem :=
  memoryIsExactlyItsBytes.2 _ t (hostEdits_inv _ hs) ht fun x => by
    rw [readByte_memoryEdits, if_pos (mem_allAddresses x)]

/-- The edits of the fields leave memory and the model's own fields, and nothing else, of `s`. -/
theorem hostEdits_fieldEdits (s t : State) :
    s.hostEdits (fieldEdits t) =
      { t with
        mem := s.mem, auxCarryMode := s.auxCarryMode, events := s.events, draws := s.draws } := by
  simp [fieldEdits, State.hostEdit, State.setReg]

/-- Settles O58: the edits of all addresses, and then those of every other element. -/
theorem hostEditsReachEveryState : Obligations.HostEditsReachEveryState := by
  unfold Obligations.HostEditsReachEveryState
  refine ⟨fun s edits => hostEdits_inv edits, fun s t hs ht hmode hevents hdraws => ?_⟩
  refine ⟨memoryEdits t allAddresses ++ fieldEdits t, ?_⟩
  rw [hostEdits_append, hostEdits_fieldEdits, mem_memoryEdits_allAddresses hs ht,
    hostEdits_auxCarryMode, hostEdits_events, hostEdits_draws, ← hmode, ← hevents, ← hdraws]

/-! ## When the edits take effect -/

/-- A run under `never` without edits is always running, with the state of the core's steps. -/
theorem exists_run_and_hostRun_never_nil (s : State) (k : Nat) :
    ∃ t : State, core.run k s = .next t ∧ hostRun k .never [] s = .running t := by
  induction k generalizing s with
  | zero => exact ⟨s, rfl, rfl⟩
  | succ k ih =>
    obtain ⟨u, hstep⟩ := everyStepGivesANextState s
    obtain ⟨t, hrun, hhost⟩ := ih u
    exact ⟨t, (core_run_succ hstep).trans hrun, (hostRun_never_nil hstep).trans hhost⟩

/-- Edits made before the first step: the run goes on from the edited state. -/
theorem exists_run_and_hostRun_never_edits (s : State) (k : Nat) (edits : List HostEdit) :
    ∃ t : State, core.run (k + 1) (s.hostEdits edits) = .next t ∧
      hostRun (k + 1) .never [edits] s = .running t := by
  obtain ⟨u, hstep⟩ := everyStepGivesANextState (s.hostEdits edits)
  obtain ⟨t, hrun, hhost⟩ := exists_run_and_hostRun_never_nil u k
  exact ⟨t, (core_run_succ hstep).trans hrun, (hostRun_never_cons hstep).trans hhost⟩

/-- Settles O59, by induction on the number of steps before the edits. -/
theorem hostEditsTakeEffectAtTheNextStep : Obligations.HostEditsTakeEffectAtTheNextStep := by
  unfold Obligations.HostEditsTakeEffectAtTheNextStep
  intro s m k edits
  induction m generalizing s with
  | zero =>
    obtain ⟨t, hrun, hhost⟩ := exists_run_and_hostRun_never_edits s k edits
    rw [Nat.zero_add]
    exact ⟨s, t, rfl, hrun, hhost⟩
  | succ m ih =>
    obtain ⟨v, hstep⟩ := everyStepGivesANextState s
    obtain ⟨u, t, hbefore, hafter, hhost⟩ := ih v
    have hnow : step (s.hostEdits []) = .next v := hstep
    rw [Nat.add_right_comm m 1, List.replicate_succ, List.cons_append]
    exact ⟨u, t, (core_run_succ hstep).trans hbefore, hafter, (hostRun_never_cons hnow).trans hhost⟩

end Sys2Proof.Machine.Proofs
end

section
/-! PROOFS of 70_reset_and_hazards.md: where a watched run without edits stands, under each of the
host's choices of its end. -/

namespace Sys2Proof.Machine.Proofs

open Sys2Proof.Laws Sys2Proof.Machine.Laws

/-! ## A fixed number of steps -/

/-- Watched for as many steps as it may take, a run under steps(n) ends after `n` steps. -/
theorem exists_hostRun_steps_ended {n k : Nat} (hnk : n ≤ k) (s : State) :
    ∃ t : State, hostRun k (.steps n) [] s = .ended t ∧ core.run n s = .next t := by
  induction n generalizing k s with
  | zero => cases k <;> exact ⟨s, rfl, rfl⟩
  | succ n ih =>
    obtain ⟨k, rfl⟩ := Nat.exists_eq_add_one_of_ne_zero (Nat.ne_zero_of_lt hnk)
    obtain ⟨u, hstep⟩ := everyStepGivesANextState s
    obtain ⟨t, hhost, hrun⟩ := ih (Nat.le_of_succ_le_succ hnk) u
    exact ⟨t, (hostRun_steps_nil hstep).trans hhost, (core_run_succ hstep).trans hrun⟩

/-- Watched for fewer steps than it may take, a run under steps(n) is running. -/
theorem exists_hostRun_steps_running {n k : Nat} (hkn : k < n) (s : State) :
    ∃ t : State, hostRun k (.steps n) [] s = .running t ∧ core.run k s = .next t := by
  induction k generalizing n s with
  | zero => exact ⟨s, if_neg (by simpa using Nat.ne_of_gt hkn), rfl⟩
  | succ k ih =>
    obtain ⟨n, rfl⟩ := Nat.exists_eq_add_one_of_ne_zero (Nat.ne_zero_of_lt hkn)
    obtain ⟨u, hstep⟩ := everyStepGivesANextState s
    obtain ⟨t, hhost, hrun⟩ := ih (Nat.lt_of_succ_lt_succ hkn) u
    exact ⟨t, (hostRun_steps_nil hstep).trans hhost, (core_run_succ hstep).trans hrun⟩

/-! ## The first step that emits Halt -/

/-- None of the first `k` steps from `s` emits Halt. -/
def NoHaltBefore (s : State) (k : Nat) : Prop :=
  ∀ (i : Nat) (v w : State), i < k → core.run i s = .next v → step v = .next w →
    eventsOfStep v w ≠ [.halt]

/-- Step `j` from `s` leads to `t` and is the first that emits Halt. -/
def FirstHaltAt (s : State) (j : Nat) (t : State) : Prop :=
  ∃ u : State, core.run j s = .next u ∧ step u = .next t ∧ eventsOfStep u t = [.halt] ∧
    NoHaltBefore s j

section
variable {s u : State} (hstep : step s = .next u)
include hstep

theorem noHaltBefore_succ {k : Nat} :
    NoHaltBefore s (k + 1) ↔ eventsOfStep s u ≠ [.halt] ∧ NoHaltBefore u k := by
  constructor
  · intro h
    refine ⟨h 0 s u k.succ_pos rfl hstep, fun i v w hi hv hw => ?_⟩
    exact h (i + 1) v w (Nat.succ_lt_succ hi) ((core_run_succ hstep).trans hv) hw
  · rintro ⟨hnow, hlater⟩ i v w hi hv hw
    cases i with
    | zero =>
      obtain rfl : v = s := next_injective hv
      obtain rfl : w = u := next_injective (hstep.symm.trans hw)
      exact hnow
    | succ i =>
      exact hlater i v w (Nat.lt_of_succ_lt_succ hi) ((core_run_succ hstep).symm.trans hv) hw

theorem firstHaltAt_zero {t : State} :
    FirstHaltAt s 0 t ↔ eventsOfStep s u = [.halt] ∧ u = t := by
  constructor
  · rintro ⟨v, hv, hw, hhalt, -⟩
    obtain rfl : v = s := next_injective hv
    obtain rfl : t = u := next_injective (hstep.symm.trans hw)
    exact ⟨hhalt, rfl⟩
  · rintro ⟨hhalt, rfl⟩
    exact ⟨s, rfl, hstep, hhalt, fun i _ _ hi => absurd hi i.not_lt_zero⟩

theorem firstHaltAt_succ {j : Nat} {t : State} :
    FirstHaltAt s (j + 1) t ↔ eventsOfStep s u ≠ [.halt] ∧ FirstHaltAt u j t := by
  simp only [FirstHaltAt, noHaltBefore_succ hstep, core_run_succ hstep]
  constructor
  · rintro ⟨v, hrun, hlast, hhalt, hnow, hlater⟩
    exact ⟨hnow, v, hrun, hlast, hhalt, hlater⟩
  · rintro ⟨hnow, v, hrun, hlast, hhalt, hlater⟩
    exact ⟨v, hrun, hlast, hhalt, hnow, hlater⟩

end

/-- A run under at_halt has ended exactly with the first step that emits Halt. -/
theorem hostRun_atHalt_eq_ended_iff (s : State) (k : Nat) (t : State) :
    hostRun k .atHalt [] s = .ended t ↔ ∃ j < k, FirstHaltAt s j t := by
  induction k generalizing s with
  | zero => simp [hostRun]
  | succ k ih =>
    obtain ⟨u, hstep⟩ := everyStepGivesANextState s
    rw [hostRun_atHalt_nil hstep, Nat.exists_lt_succ_left, firstHaltAt_zero hstep]
    by_cases hhalt : eventsOfStep s u = [.halt] <;> simp [firstHaltAt_succ hstep, hhalt, ih]

/-- While no step has emitted Halt, a run under at_halt is running. -/
theorem exists_hostRun_atHalt_running {s : State} {k : Nat} (h : NoHaltBefore s k) :
    ∃ t : State, hostRun k .atHalt [] s = .running t ∧ core.run k s = .next t := by
  induction k generalizing s with
  | zero => exact ⟨s, rfl, rfl⟩
  | succ k ih =>
    obtain ⟨u, hstep⟩ := everyStepGivesANextState s
    obtain ⟨hnow, hlater⟩ := (noHaltBefore_succ hstep).mp h
    obtain ⟨t, hhost, hrun⟩ := ih hlater
    rw [hostRun_atHalt_nil hstep, if_neg hnow, core_run_succ hstep]
    exact ⟨t, hhost, hrun⟩

/-! ## The host's three choices -/

/-- Settles O56: each part is the lemma on its choice of the host; at_halt ends with the step that
`FirstHaltAt` describes. -/
theorem endOfRunIsTheHostsChoice : Obligations.EndOfRunIsTheHostsChoice := by
  unfold Obligations.EndOfRunIsTheHostsChoice
  intro s n k
  refine ⟨fun hnk => exists_hostRun_steps_ended hnk s, fun hkn => exists_hostRun_steps_running hkn s,
    fun t => ?_, exists_hostRun_atHalt_running, ?_⟩
  · simpa only [FirstHaltAt, NoHaltBefore, exists_and_left] using hostRun_atHalt_eq_ended_iff s k t
  · obtain ⟨t, hrun, hhost⟩ := exists_run_and_hostRun_never_nil s k
    exact ⟨t, hhost, hrun⟩

end Sys2Proof.Machine.Proofs
end

section
/-! PROOFS of 45_stack_io_control.md: input, output and the halt, by the events they emit. -/

namespace Sys2Proof.Machine.Proofs

/-- Settles O53: IN is `inputToA`, an event and a draw, and OUT and HLT are `State.emit` alone, which
appends to the list of events. -/
theorem inOutAndHltEmitTheirEvents : Obligations.InOutAndHltEmitTheirEvents := by
  unfold Obligations.InOutAndHltEmitTheirEvents
  intro s port
  have hin : exec (.inPort port) s = .next (inputToA port s) := rfl
  have hout : exec (.outPort port) s = .next (s.emit (.out port s.a)) := rfl
  have hhlt : exec .hlt s = .next (s.emit .halt) := rfl
  exact ⟨hin, hout, hhlt⟩

end Sys2Proof.Machine.Proofs
end
